-- ==== Sys2Proof/Word.lean ====
section
/-!
DEFINITION. The byte, and the two plainest pieces of arithmetic the rules share: a clamp to the nearer bound and the
distance of two readings.  Everything else the spec counts is a plain natural number in the units of its Table 2.
-/

namespace Sys2Proof

/-- One byte of a port's serial link (00_scope, "Ports and field link": 8 data bits). -/
abbrev Byte := BitVec 8

/-- A value out of range is clamped to the nearer bound (R158, step 4). -/
def clampTo (lo hi v : Nat) : Nat := if v < lo then lo else if hi < v then hi else v

/-- The difference of two quantities, in either direction. -/
def distance (a b : Nat) : Nat := (a - b) + (b - a)

end Sys2Proof
end

