-- ==== Sys2Proof/Syntax.lean ====
section
/-!
DEFINITION. The commands of the HJB-400: one constructor of `Instr` for each row of spec/opcode_table.json, with the
operands that the row's rule gives it.  The rows are the part's steps (spec/95_what_each_step_holds.md): commands of a
port master, writes of settings, ticks of the part's clocks, timer and counter ends, proof edges and field-link events.
Values that a frame carries are plain naturals here; `WellFormed.lean` says which of them a frame can carry.
-/

namespace Sys2Proof

/-- The four tubes, numbered from the bottom of the stack (00_scope, "The bank"). -/
inductive TubeId where
  | t0 | t1 | t2 | t3
deriving DecidableEq, Repr

/-- The three heater zones of a tube (00_scope, "Indices"). -/
inductive ZoneId where
  | loadEnd | centre | sourceEnd
deriving DecidableEq, Repr

/-- The six gas lines of a tube; `l0` is its inert line (00_scope, "Indices"). -/
inductive LineId where
  | l0 | l1 | l2 | l3 | l4 | l5
deriving DecidableEq, Repr

/-- The four supply headers of the gas cabinet (R87, Table 75). -/
inductive Header where
  | inert | oxidant | reducing | carrier
deriving DecidableEq, Repr

/-- The eight rendezvous marks (Table 24). -/
inductive MarkId where
  | m0 | m1 | m2 | m3 | m4 | m5 | m6 | m7
deriving DecidableEq, Repr

/-- The five serial ports: a station port for each tube, and the facility port F. -/
inductive Port where
  | station (t : TubeId)
  | facility
deriving DecidableEq, Repr

/-- The four proofs of a tube (Table 75). -/
inductive TubeProof where
  | exh | sealed | otc | flow
deriving DecidableEq, Repr

/-- The two proofs of the bank (Table 75). -/
inductive BankProof where
  | estop | cooling
deriving DecidableEq, Repr

/-- Any proof of the Condition Monitor. -/
inductive ProofId where
  | tube (t : TubeId) (k : TubeProof)
  | bank (k : BankProof)
deriving DecidableEq, Repr

/-- The 21 nodes of the field link (Table 62). -/
inductive NodeId where
  | zone (t : TubeId) (z : ZoneId)
  | flow (t : TubeId)
  | loader (t : TubeId)
  | bank
deriving DecidableEq, Repr

/-- The status field of a zone unit's reply, as it arrives: one of its two choices, or a value that names neither
(R146, Table 64). -/
inductive WireStatus where
  | ok | sensorOpen | invalid
deriving DecidableEq, Repr

/-- A two-valued field of a reply as it arrives: yes (closed), no (open), or a value that names neither (R146). -/
inductive WireFlag where
  | yes | no | invalid
deriving DecidableEq, Repr

/-- One value for each tube. -/
structure PerTube (α : Type) where
  t0 : α
  t1 : α
  t2 : α
  t3 : α
deriving DecidableEq, Repr

/-- One value for each zone of a tube. -/
structure PerZone (α : Type) where
  loadEnd : α
  centre : α
  sourceEnd : α
deriving DecidableEq, Repr

/-- One value for each gas line of a tube. -/
structure PerLine (α : Type) where
  l0 : α
  l1 : α
  l2 : α
  l3 : α
  l4 : α
  l5 : α
deriving DecidableEq, Repr

/-- One value for each header. -/
structure PerHeader (α : Type) where
  inert : α
  oxidant : α
  reducing : α
  carrier : α
deriving DecidableEq, Repr

/-- One value for each mark. -/
structure PerMark (α : Type) where
  m0 : α
  m1 : α
  m2 : α
  m3 : α
  m4 : α
  m5 : α
  m6 : α
  m7 : α
deriving DecidableEq, Repr

/-! ### Tables: one entry read or replaced -/

/-- The four tubes in ascending order. -/
def TubeId.all : List TubeId := [.t0, .t1, .t2, .t3]

/-- The three zones in their order. -/
def ZoneId.all : List ZoneId := [.loadEnd, .centre, .sourceEnd]

/-- The six lines in ascending order. -/
def LineId.all : List LineId := [.l0, .l1, .l2, .l3, .l4, .l5]

/-- The four headers in the order of Table 75. -/
def Header.all : List Header := [.inert, .oxidant, .reducing, .carrier]

/-- The eight marks in ascending order. -/
def MarkId.all : List MarkId := [.m0, .m1, .m2, .m3, .m4, .m5, .m6, .m7]

section
variable {α : Type}

/-- The entry of one tube. -/
def PerTube.get (x : PerTube α) : TubeId → α
  | .t0 => x.t0
  | .t1 => x.t1
  | .t2 => x.t2
  | .t3 => x.t3

/-- The table with one tube's entry replaced. -/
def PerTube.set (x : PerTube α) (t : TubeId) (a : α) : PerTube α :=
  match t with
  | .t0 => { x with t0 := a }
  | .t1 => { x with t1 := a }
  | .t2 => { x with t2 := a }
  | .t3 => { x with t3 := a }

/-- The table whose entries a function gives. -/
def PerTube.of (f : TubeId → α) : PerTube α := ⟨f .t0, f .t1, f .t2, f .t3⟩

/-- The entry of one zone. -/
def PerZone.get (x : PerZone α) : ZoneId → α
  | .loadEnd => x.loadEnd
  | .centre => x.centre
  | .sourceEnd => x.sourceEnd

/-- The table with one zone's entry replaced. -/
def PerZone.set (x : PerZone α) (z : ZoneId) (a : α) : PerZone α :=
  match z with
  | .loadEnd => { x with loadEnd := a }
  | .centre => { x with centre := a }
  | .sourceEnd => { x with sourceEnd := a }

/-- The table whose entries a function gives. -/
def PerZone.of (f : ZoneId → α) : PerZone α := ⟨f .loadEnd, f .centre, f .sourceEnd⟩

/-- The entry of one line. -/
def PerLine.get (x : PerLine α) : LineId → α
  | .l0 => x.l0
  | .l1 => x.l1
  | .l2 => x.l2
  | .l3 => x.l3
  | .l4 => x.l4
  | .l5 => x.l5

/-- The table with one line's entry replaced. -/
def PerLine.set (x : PerLine α) (l : LineId) (a : α) : PerLine α :=
  match l with
  | .l0 => { x with l0 := a }
  | .l1 => { x with l1 := a }
  | .l2 => { x with l2 := a }
  | .l3 => { x with l3 := a }
  | .l4 => { x with l4 := a }
  | .l5 => { x with l5 := a }

/-- The table whose entries a function gives. -/
def PerLine.of (f : LineId → α) : PerLine α := ⟨f .l0, f .l1, f .l2, f .l3, f .l4, f .l5⟩

/-- The entry of one header. -/
def PerHeader.get (x : PerHeader α) : Header → α
  | .inert => x.inert
  | .oxidant => x.oxidant
  | .reducing => x.reducing
  | .carrier => x.carrier

/-- The table with one header's entry replaced. -/
def PerHeader.set (x : PerHeader α) (h : Header) (a : α) : PerHeader α :=
  match h with
  | .inert => { x with inert := a }
  | .oxidant => { x with oxidant := a }
  | .reducing => { x with reducing := a }
  | .carrier => { x with carrier := a }

/-- The table whose entries a function gives. -/
def PerHeader.of (f : Header → α) : PerHeader α := ⟨f .inert, f .oxidant, f .reducing, f .carrier⟩

/-- The entry of one mark. -/
def PerMark.get (x : PerMark α) : MarkId → α
  | .m0 => x.m0
  | .m1 => x.m1
  | .m2 => x.m2
  | .m3 => x.m3
  | .m4 => x.m4
  | .m5 => x.m5
  | .m6 => x.m6
  | .m7 => x.m7

/-- The table with one mark's entry replaced. -/
def PerMark.set (x : PerMark α) (m : MarkId) (a : α) : PerMark α :=
  match m with
  | .m0 => { x with m0 := a }
  | .m1 => { x with m1 := a }
  | .m2 => { x with m2 := a }
  | .m3 => { x with m3 := a }
  | .m4 => { x with m4 := a }
  | .m5 => { x with m5 := a }
  | .m6 => { x with m6 := a }
  | .m7 => { x with m7 := a }

/-- The table whose entries a function gives. -/
def PerMark.of (f : MarkId → α) : PerMark α := ⟨f .m0, f .m1, f .m2, f .m3, f .m4, f .m5, f .m6, f .m7⟩

end

/-- A Reading message as it arrives, before its numbers are clamped and its flags judged (R146, Table 64).  DESIGN CHOICE: its
numbers are unsigned (log entry 37). -/
inductive WireReading where
  /-- Zone unit: temperature and status. -/
  | zone (temperature : Nat) (status : WireStatus)
  /-- Flow unit: six measured flows. -/
  | flow (measured : PerLine Nat)
  /-- Loader drive: actual position and drive-ready. -/
  | loader (actual : Nat) (ready : WireFlag)
  /-- Bank node: four exhaust differentials, cooling flow, and the contact inputs. -/
  | bank (exhaust : PerTube Nat) (cooling : Nat) (exhContact sealSwitch otContact : PerTube WireFlag)
      (coolingContact estopChain : WireFlag)
deriving DecidableEq, Repr

/-- What a RAMP_ORDER_WRITE carries (R115): the ramp order's value, or the four priorities in tube order. -/
inductive RampOrderValue where
  | order (value : Nat)
  | priorities (p0 p1 p2 p3 : Nat)
deriving DecidableEq, Repr

/-- The commands of the block, one constructor per row of spec/opcode_table.json, in the table's order. -/
inductive Instr where
  /-- POWER_ON: power is applied (R23 and each chapter's power-on column). -/
  | powerOn
  /-- RESET_PIN: a low level on RESET causes a bank reset (R23). -/
  | resetPin
  /-- FRAME_RECEIVED: these bytes arrive on the port, up to and with a frame's CHECK byte (R155). -/
  | frameReceived (p : Port) (bytes : List Byte)
  /-- INTER_BYTE_TIMEOUT: more than 5 ms pass between two bytes of a frame (R155). -/
  | interByteTimeout (p : Port)
  /-- COMMAND_TAKEN: the port engine takes its oldest queued frame (R157). -/
  | commandTaken (p : Port)
  /-- TRANSMITTER_FREE: the port's transmitter is free and sends the first item due (R164). -/
  | transmitterFree (p : Port)
  /-- READ(item, index) (R159). -/
  | read (p : Port) (item index : Nat)
  /-- READ_STEP(index) (R7). -/
  | readStep (p : Port) (index : Nat)
  /-- WRITE_STEP(index, record) (R6). -/
  | writeStep (p : Port) (index : Nat) (record : List Byte)
  /-- START(entry) (R28). -/
  | start (p : Port) (entry : Nat)
  /-- HOLD (R29). -/
  | hold (p : Port)
  /-- RESUME (R31). -/
  | resume (p : Port)
  /-- SKIP (R32, R33). -/
  | skip (p : Port)
  /-- ABORT (R34). -/
  | abort (p : Port)
  /-- SERVICE_IN: a station sends no payload, the facility a tube byte (R25, Table 71). -/
  | serviceIn (p : Port) (tube : Option Nat)
  /-- SERVICE_OUT: a station sends no payload, the facility a tube byte (R27, Table 71). -/
  | serviceOut (p : Port) (tube : Option Nat)
  /-- CLEAR_EVENTS(set) (R160). -/
  | clearEvents (p : Port) (set : Nat)
  /-- CLEAR_MARK(m) (R50). -/
  | clearMark (p : Port) (mark : Nat)
  /-- CLEAR_ERROR (R161). -/
  | clearError (p : Port)
  /-- CLEAR_BANK_EVENTS(set) (R160). -/
  | clearBankEvents (p : Port) (set : Nat)
  /-- BANK_HOLD (R143). -/
  | bankHold (p : Port)
  /-- BANK_RELEASE (R142). -/
  | bankRelease (p : Port)
  /-- BANK_STOP (R141). -/
  | bankStop (p : Port)
  /-- BANK_RESET (R165). -/
  | bankReset (p : Port)
  /-- SETTING_WRITE: a SET_TUBE (`bank` false) or SET_BANK (`bank` true) of an item, its index byte and its value
  bytes (R158). -/
  | settingWrite (p : Port) (bank : Bool) (item index : Nat) (value : List Byte)
  /-- SET_REGIONS: a SET_BANK write of the regions item (R3). -/
  | setRegions (p : Port) (b0 b1 b2 : Nat)
  /-- LINE_CONFIGURATION_WRITE: one line's header code and maximum (R70). -/
  | lineConfigurationWrite (p : Port) (t : TubeId) (line : LineId) (header maximum : Nat)
  /-- TMAX_WRITE (R51). -/
  | tmaxWrite (p : Port) (t : TubeId) (value : Nat)
  /-- STROKE_WRITE (R117). -/
  | strokeWrite (p : Port) (t : TubeId) (value : Nat)
  /-- STANDBY_FLOW_WRITE (R82). -/
  | standbyFlowWrite (p : Port) (t : TubeId) (value : Nat)
  /-- IDLE_FLOW_WRITE (R83). -/
  | idleFlowWrite (p : Port) (t : TubeId) (value : Nat)
  /-- IDLE_PERIOD_WRITE (R150). -/
  | idlePeriodWrite (p : Port) (t : TubeId) (value : Nat)
  /-- MASK_WRITE: the activity mask (`wake` false) or the wake mask (`wake` true) (R154). -/
  | maskWrite (p : Port) (t : TubeId) (wake : Bool) (set : Nat)
  /-- EVENT_ENABLES_WRITE (R24). -/
  | eventEnablesWrite (p : Port) (t : TubeId) (set : Nat)
  /-- PUSH_BAND_WRITE (R119). -/
  | pushBandWrite (p : Port) (t : TubeId) (value : Nat)
  /-- PROOF_SOURCE_WRITE of a tube proof or a bank proof (R131). -/
  | proofSourceWrite (p : Port) (proof : ProofId) (source : Nat)
  /-- EXH_THRESHOLD_WRITE: the low (`high` false) or high (`high` true) threshold (R133). -/
  | exhThresholdWrite (p : Port) (t : TubeId) (high : Bool) (value : Nat)
  /-- COOLING_THRESHOLD_WRITE (R134). -/
  | coolingThresholdWrite (p : Port) (value : Nat)
  /-- DEBOUNCE_WRITE of a tube proof or a bank proof (R135). -/
  | debounceWrite (p : Port) (proof : ProofId) (value : Nat)
  /-- CAPACITY_WRITE of one header (R87, R98). -/
  | capacityWrite (p : Port) (header : Header) (value : Nat)
  /-- INERT_RESERVE_WRITE (R87). -/
  | inertReserveWrite (p : Port) (value : Nat)
  /-- ADMISSION_POLICY_WRITE (R93). -/
  | admissionPolicyWrite (p : Port) (value : Nat)
  /-- BUDGET_WRITE (R100). -/
  | budgetWrite (p : Port) (value : Nat)
  /-- HOLD_RESERVE_WRITE: the index byte names the tube (R100). -/
  | holdReserveWrite (p : Port) (index value : Nat)
  /-- RAMP_ORDER_WRITE: the ramp order or the priorities (R115). -/
  | rampOrderWrite (p : Port) (value : RampOrderValue)
  /-- CMAX_WRITE: the index byte names the zone, 0 to 11 (R114). -/
  | cmaxWrite (p : Port) (index value : Nat)
  /-- RAMP_TICK of one tube, 1 s (R56). -/
  | rampTick (t : TubeId)
  /-- MOTION_TICK of one tube, 100 ms (R121). -/
  | motionTick (t : TubeId)
  /-- SOAK_COMPLETE: the soak count of the tube's SOAK reaches duration (R65). -/
  | soakComplete (t : TubeId)
  /-- PURGE_PHASE_END: the phase time of the tube's PURGE reaches on_time or off_time (R79). -/
  | purgePhaseEnd (t : TubeId)
  /-- PROOF_TIMEOUT: the proof time reaches its setting (R37). -/
  | proofTimeout (t : TubeId)
  /-- SETTLE_TIME_EXPIRY (R26). -/
  | settleTimeExpiry (t : TubeId)
  /-- EMERGENCY_PURGE_END (R35). -/
  | emergencyPurgeEnd (t : TubeId)
  /-- IDLE_TIMER_EXPIRY (R152). -/
  | idleTimerExpiry (t : TubeId)
  /-- SYNC_TIMEOUT (R49). -/
  | syncTimeout (t : TubeId)
  /-- BAND_TIMEOUT (R61). -/
  | bandTimeout (t : TubeId)
  /-- ZONE_STALE (R62). -/
  | zoneStale (t : TubeId)
  /-- GAS_LOST (R80). -/
  | gasLost (t : TubeId)
  /-- SETTLE_STALL (R123). -/
  | settleStall (t : TubeId)
  /-- FOLLOW_STALL (R124). -/
  | followStall (t : TubeId)
  /-- PROOF_EDGE: a proof's debounce count reaches its debounce time (R135, R138). -/
  | proofEdge (proof : ProofId)
  /-- FLOW_SETTLE_END: the tube's flow settle time left reaches 0 (R137). -/
  | flowSettleEnd (t : TubeId)
  /-- POLL_DUE: the node's poll period elapses (R144). -/
  | pollDue (n : NodeId)
  /-- EXCHANGE_TAKEN: the link is free and its arbiter takes the next due exchange (R145). -/
  | exchangeTaken
  /-- GOOD_REPLY: a Reading message of the node arrives in time (R147). -/
  | goodReply (n : NodeId) (reading : WireReading)
  /-- REPLY_TIMEOUT: the node's exchange ends without a good reply (R147). -/
  | replyTimeout (n : NodeId)
  /-- SYNC_BYTE_RECEIVED: a SYNC byte arrives on the port (R155). -/
  | syncByteReceived (p : Port)
  /-- LEN_ABOVE_250: this byte, a LEN above 250, arrives on the port (R155). -/
  | lenAbove250 (p : Port) (len : Byte)
  /-- FLOW_TOLERANCE_WRITE: tol_pct (`min` false) or tol_min (`min` true) (R136). -/
  | flowToleranceWrite (p : Port) (min : Bool) (value : Nat)
  /-- SEAL_BAND_WRITE (R128). -/
  | sealBandWrite (p : Port) (t : TubeId) (value : Nat)
deriving DecidableEq, Repr

end Sys2Proof
end

