-- ==== Sys2Proof/Decode.lean ====
section
/-!
DEFINITION. Commands from words.  The rows of spec/opcode_table.json are operations and events of a block: none of them
carries bits, so no word spells a command (log entry 19).  The bytes that a port master sends are frames; they are read
by `parse?` in Machine/Commands.lean.
-/

namespace Sys2Proof

/-- The command that a word of `nbits` bits spells: none, as no row of the table gives bits. -/
def decodeTableWord (_nbits _w : Nat) : Option Instr := none

end Sys2Proof
end

