-- ==== Sys2Proof/Config.lean ====
section
/-!
DEFINITION. What the part fixes, and the free values: constants without a body, of which Lean can prove nothing, for the
orders that the spec leaves open.
-/

namespace Sys2Proof

/-- FREE VALUE (log entry 1).  Where several tubes or several ends of one step are acted on within one step of the part
and no rule orders them, the order is drawn from this constant, applied to a counter of State that advances. -/
opaque Config.order : Nat → Nat

/-- Descriptors in the Profile Memory (R1). -/
def Config.descriptors : Nat := 1024

/-- Bytes of one descriptor record (Table 72). -/
def Config.recordBytes : Nat := 48

/-- The SYNC byte (Table 70). -/
def Config.syncByte : Byte := 0xA5

/-- The greatest LEN of a frame (R155). -/
def Config.maxLen : Nat := 250

/-- Frames that a receive queue holds (R156). -/
def Config.queueFrames : Nat := 4

/-- Settle time of SERVICE_IN, 2.0 s in motion ticks of 0.1 s (R25). -/
def Config.settleTicks : Nat := 20

/-- Misses after which a node is stale (R147). -/
def Config.staleMisses : Nat := 3

/-- Greatest band hold time, at which the count stays (R61). -/
def Config.bandHoldCap : Nat := 65536

/-- How many sequencer acts one command may set off before the part takes its next command (log entry 2).  A recipe in
which steps complete without end and without time passing is the only one that reaches it. -/
def Config.jobFuel : Nat := 1048576

end Sys2Proof
end

