-- ==== Sys2Proof/Machine/State.lean ====
section
/-!
DEFINITION. The state of the HJB-400 as plain data: every piece of state that the spec's chapters name (Tables 5, 9, 15,
24, 29, 36, 38, 42, 46, 51, 56, 57, 63, 67 and the port engines of chapter 11), the queue of waiting commands, and two
fields of the model's own: the acts still to run (`jobs`) and the counter of free values (`free`).  Derived quantities that a table of the spec lists (the commitment C, the grant sums Gh, the limits Lh,
the zone setpoints, the sent flows, ATTN) are functions of this state, in the files beside this one.
-/

namespace Sys2Proof.Machine

open Sys2Proof

/-! ### Kinds and codes -/

/-- Why a tube is HELD (Table 15). -/
inductive HoldReason where
  | station | fault | invalid | bank
deriving DecidableEq, Repr

/-- The stage of the current step (Table 15, Table 16 note 2). -/
inductive Phase where
  | notStarted | acquire | prove | execute
deriving DecidableEq, Repr

/-- A tube's state, with what exists in that state only: the settle time left in 0.1 s (Table 15), the idle timer in
seconds or stopped (Table 67), the phase, the hold reason, the emergency purge time left in seconds.  R22: a tube is in
exactly one state, HELD has a hold reason, RUNNING and HELD have a phase. -/
inductive Mode where
  | outOfService
  | settling (left : Nat)
  | idle (timer : Option Nat)
  | idlePurge
  | running (phase : Phase)
  | held (reason : HoldReason) (phase : Phase)
  | aborting (left : Nat)
deriving DecidableEq, Repr

/-- The seven actions (R9). -/
inductive Action where
  | ramp | soak | purge | push | pull | sync | endRun
deriving DecidableEq, Repr

/-- Fault, trip and error kinds (Table 75). -/
inductive Kind where
  | stepInvalid | proofTimeout | gasLost | bandTimeout | syncTimeout | pushStall | zoneStale
  | exhLost | otcLost | sealLost | estop | bankStop | headerCut
deriving DecidableEq, Repr

/-- The fifteen tube event kinds, in the order of Table 18. -/
inductive Event where
  | stepDone | runEnd | fault | trip | held | rampHeld | rampWait | gasWait | flowCut | purgeDegraded
  | proofRise | proofFall | idleEntered | wake | inService
deriving DecidableEq, Repr

/-- The seven bank event kinds, in the order of R160. -/
inductive BankEvent where
  | headerCut | throttleOn | throttleOff | grantRevoked | estop | coolingLost | errorRecorded
deriving DecidableEq, Repr

/-- The four activity kinds (Table 68), numbered as Table 76 note 3. -/
inductive Activity where
  | portCommand | sealChange | proofChange | markSet
deriving DecidableEq, Repr

/-- Refusal reasons of a REFUSE frame (Table 75). -/
inductive Reason where
  | notOwner | notReady | badState | bankStopped | bankHold | outOfRegion | tubeActive | badValue | unknown
deriving DecidableEq, Repr

/-- A proof's source (Table 75, R131). -/
inductive Source where
  | internal | externalPass | externalComplement | fixedTrue | fixedFalse
deriving DecidableEq, Repr

/-- Direction of a RAMP, once fixed (R55). -/
inductive Direction where
  | up | down
deriving DecidableEq, Repr

/-- Phase of a PURGE cycle (Table 38). -/
inductive PurgePhase where
  | high | low
deriving DecidableEq, Repr

/-- A tube's fault_action (R42). -/
inductive FaultAction where
  | hold | abort
deriving DecidableEq, Repr

/-- The admission policy (R92, R93). -/
inductive Policy where
  | fifo | fitFirst
deriving DecidableEq, Repr

/-- The ramp order (R107, R108). -/
inductive RampOrder where
  | fixed | rotate
deriving DecidableEq, Repr

/-- Why a node is STALE (Table 63). -/
inductive StaleCause where
  | missed | sensorOpen
deriving DecidableEq, Repr

/-! ### The tube -/

/-- The active step record: the loaded copy, its check result and the run-time counters of Table 9. -/
structure ActiveStep where
  /-- The current index (Table 15). -/
  index : Nat
  /-- The loaded copy of the descriptor, 48 bytes (R18, Table 72). -/
  record : List Byte
  /-- Check result: the number of the first check of Table 10 that failed, or none (R19). -/
  failed : Option Nat
  /-- Ramp accumulator, 0..59 (R56). -/
  rampAcc : Nat
  /-- Ramp direction, once fixed (R55). -/
  rampDir : Option Direction
  /-- Hold flag (R59). -/
  holdFlag : Bool
  /-- Band hold time in s (R61). -/
  bandHold : Nat
  /-- Soak count in s (R65). -/
  soakCount : Nat
  /-- Pulse number (Table 38). -/
  pulse : Nat
  /-- PURGE phase (Table 38). -/
  purgePhase : PurgePhase
  /-- PURGE phase time in s (Table 38). -/
  phaseTime : Nat
  /-- Purge high flow (R78). -/
  purgeHigh : Nat
  /-- Purge low flow (R78). -/
  purgeLow : Nat
  /-- Motion accumulator, 0..59 (R121). -/
  motionAcc : Nat
  /-- Motion speed in mm/min (R121). -/
  speed : Nat
  /-- At-target mark (R120, R121). -/
  atTarget : Bool
  /-- Settle count in 0.1 s (R123). -/
  settleCount : Nat
  /-- Follow count in 0.1 s (R124). -/
  followCount : Nat
  /-- Proof time in s (R37). -/
  proofTime : Nat
  /-- Flow loss time in s (R80). -/
  flowLoss : Nat
  /-- Zone stale time in s (R62). -/
  zoneStale : Nat
  /-- Sync wait time in s (R48, R49). -/
  syncWait : Nat
deriving DecidableEq, Repr

/-- A tube's last fault record: kind, step index, failing field (R44). -/
structure FaultRecord where
  kind : Kind
  index : Nat
  field : Option Nat
deriving DecidableEq, Repr

/-- One line's configuration: its header, or unmapped, and its maximum in sccm (R70). -/
structure LineConfig where
  header : Option Header
  maximum : Nat
deriving DecidableEq, Repr

/-- A tube's share of the grant table: line grants, line commands and the emergency mark (Table 36, R71, R88). -/
structure TubeGas where
  grant : PerLine Nat
  command : PerLine Nat
  emergency : Bool
deriving DecidableEq, Repr

/-- One proof's settings and values (Table 56). -/
structure Proof where
  source : Source
  raw : Bool
  proven : Bool
  /-- Debounce time in 0.1 s. -/
  debounce : Nat
  /-- Debounce count in 0.1 s. -/
  count : Nat
  riseEnable : Bool
  fallEnable : Bool
deriving DecidableEq, Repr

/-- The tube settings that are not part of a proof (Tables 35, 41, 53, 67, R24, R42). -/
structure TubeSettings where
  faultAction : FaultAction
  /-- Event enables, one bit per kind in the order of Table 18 (R24). -/
  enables : BitVec 15
  lines : PerLine LineConfig
  tmax : Nat
  stroke : Nat
  standbyFlow : Nat
  idleFlow : Nat
  idleTemperature : Nat
  idleRate : Nat
  /-- Idle period in min (R150). -/
  idlePeriod : Nat
  activityMask : BitVec 4
  wakeMask : BitVec 4
  pushBand : Nat
  bandLimit : Nat
  sealBand : Nat
  exhLow : Nat
  exhHigh : Nat
deriving DecidableEq, Repr

/-- One tube: its sequencer, ramp generator, motion generator, grants, proofs and settings. -/
structure Tube where
  mode : Mode
  /-- Active step record, present in RUNNING, HELD and ABORTING (Table 16). -/
  step : Option ActiveStep
  /-- Loop register: owner and passes remaining (R41). -/
  loopOwner : Option Nat
  loopLeft : Nat
  /-- Event requests, one bit per kind in the order of Table 18 (R24). -/
  events : BitVec 15
  lastFault : Option FaultRecord
  /-- Centre setpoint S in 0.01 °C (R51). -/
  setpoint : Nat
  /-- The three zone offsets in 0.1 °C (R52). -/
  offsets : PerZone Int
  /-- Idle accumulator (R67). -/
  idleAcc : Nat
  /-- Commanded position P in 0.1 mm (R116). -/
  position : Nat
  /-- Position-taken mark (R116). -/
  taken : Bool
  gas : TubeGas
  exhProof : Proof
  sealProof : Proof
  otcProof : Proof
  flowProof : Proof
  /-- FLOW settle time left in 0.1 s (R137). -/
  flowSettle : Nat
  settings : TubeSettings
deriving DecidableEq, Repr

/-! ### The Mark Table -/

/-- One entry of a mark's waiter list (Table 24). -/
structure Waiter where
  tube : TubeId
  consume : Bool
deriving DecidableEq, Repr

/-- One mark (Table 24). -/
structure Mark where
  set : Bool
  setter : Option TubeId
  waiters : List Waiter
deriving DecidableEq, Repr

/-! ### The Gas Allocator -/

/-- One entry of the gas request queue (R89). -/
structure GasEntry where
  tube : TubeId
  amount : PerHeader Nat
  flows : PerLine Nat
  oversize : Bool
deriving DecidableEq, Repr

/-- The Gas Allocator's bank state (Table 42); the grants stand with the tubes. -/
structure GasAllocator where
  capacity : PerHeader Nat
  reserve : Nat
  emergencyFlow : Nat
  policy : Policy
  queue : List GasEntry
deriving DecidableEq, Repr

/-! ### The Power Allocator -/

/-- One entry of the ramp request set (R102). -/
structure RampRequest where
  tube : TubeId
  amount : Nat
  oversize : Bool
deriving DecidableEq, Repr

/-- One entry of the ramp grant list (R103). -/
structure RampGrant where
  tube : TubeId
  amount : Nat
deriving DecidableEq, Repr

/-- The Power Allocator's state (Table 46); the commitment C is derived (`commitment`). -/
structure PowerAllocator where
  budget : Nat
  holdReserve : PerTube Nat
  requests : List RampRequest
  grants : List RampGrant
  order : RampOrder
  priority : PerTube Nat
  pointer : TubeId
  throttle : Nat
  cmax : PerTube (PerZone Nat)
  ceiling : PerTube (PerZone Nat)
deriving DecidableEq, Repr

/-! ### The Condition Monitor's bank state and the other bank settings -/

/-- The Condition Monitor's bank state (Tables 56 and 57). -/
structure Monitor where
  /-- Bank stop latch (R141). -/
  latch : Bool
  /-- Bank hold flag (R143). -/
  hold : Bool
  estopProof : Proof
  coolingProof : Proof
  coolingThreshold : Nat
  tolPct : Nat
  tolMin : Nat
  /-- Flow settle time setting in 0.1 s (R137). -/
  flowSettleTime : Nat
deriving DecidableEq, Repr

/-- The bank settings read by the sequencers (R37, Tables 35, 41 and 53). -/
structure BankSettings where
  emergencyTime : Nat
  proofTime : Nat
  flowLossTime : Nat
  zoneStaleLimit : Nat
  inPositionBand : Nat
  settleTime : Nat
  followLimit : Nat
  stallTime : Nat
deriving DecidableEq, Repr

/-! ### The Field Link Master -/

/-- A node's mark, stale cause, miss count and due marks (Table 63). -/
structure NodeStatus where
  fresh : Bool
  cause : StaleCause
  misses : Nat
  pollDue : Bool
  safeDue : Bool
deriving DecidableEq, Repr

/-- A zone unit's status (Table 64). -/
inductive ZoneStatus where
  | ok | sensorOpen
deriving DecidableEq, Repr

/-- A zone unit's latest reading (Table 64). -/
structure ZoneReading where
  temperature : Nat
  status : ZoneStatus
deriving DecidableEq, Repr

/-- A loader drive's latest reading (Table 64). -/
structure LoaderReading where
  actual : Nat
  ready : Bool
deriving DecidableEq, Repr

/-- The bank node's latest reading; a contact is true when closed (Table 64, R132). -/
structure BankReading where
  exhaust : PerTube Nat
  cooling : Nat
  exhContact : PerTube Bool
  sealSwitch : PerTube Bool
  otContact : PerTube Bool
  coolingContact : Bool
  estopChain : Bool
deriving DecidableEq, Repr

/-- One node: its latest reading, or none, and its status (Table 63). -/
structure Node (ρ : Type) where
  reading : Option ρ
  status : NodeStatus
deriving DecidableEq, Repr

/-- A Set message as sent (R145, R149). -/
inductive SetMessage where
  | zone (setpoint ceiling : Nat)
  | flow (sent : PerLine Nat)
  | loader (position : Nat) (enable : Bool)
  | bank
deriving DecidableEq, Repr

/-- The exchange in progress on the link (R144). -/
structure Exchange where
  node : NodeId
  safe : Bool
  message : SetMessage
deriving DecidableEq, Repr

/-- The Field Link Master (Table 63). -/
structure FieldLink where
  zones : PerTube (PerZone (Node ZoneReading))
  flows : PerTube (Node (PerLine Nat))
  loaders : PerTube (Node LoaderReading)
  bank : Node BankReading
  /-- The exchange in progress, if any (R144). -/
  exchange : Option Exchange
deriving DecidableEq, Repr

/-! ### The Port Interface -/

/-- A frame's CODE and payload; SYNC, LEN and CHECK follow from them (Table 70). -/
structure Frame where
  code : Byte
  payload : List Byte
deriving DecidableEq, Repr

/-- One port engine (R155, R156, R157, R164). -/
structure PortEngine where
  /-- The frame being received: the bytes that came after its SYNC. -/
  rx : Option (List Byte)
  /-- Receive queue, oldest first. -/
  queue : List Frame
  /-- CTS output: true while raised (R156). -/
  cts : Bool
  /-- Replies made and not yet being sent, oldest first (R157, log entry 5). -/
  replies : List Frame
  /-- The frame that the transmitter is sending (R164). -/
  sending : Option Frame
  /-- Count of REJECT(FRAME); 0 while none is due (R155). -/
  rejectFrame : Nat
  /-- CODE and count of REJECT(OVERRUN) while one is due (R156). -/
  rejectOverrun : Option (Byte × Nat)
  /-- Note-pending flag (R163). -/
  notePending : Bool
deriving DecidableEq, Repr

/-- The five port engines. -/
structure Ports where
  station : PerTube PortEngine
  facility : PortEngine
deriving DecidableEq, Repr

/-- The bank error record, when valid (R161). -/
structure BankError where
  kind : Kind
  tube : Option TubeId
  index : Option Nat
  field : Option Nat
deriving DecidableEq, Repr

/-! ### Acts in progress -/

/-- One act that a rule orders within the step being taken, still to run.  MODEL's own: it makes "taken whole"
(R47, R94) a plain list, first to run first. -/
inductive Job where
  /-- A checked step begins (R36). -/
  | beginStep (t : TubeId)
  /-- The conditions of PROVE are judged (R37, R119). -/
  | judge (t : TubeId)
  /-- A gas grant reaches the tube's sequencer (R73). -/
  | granted (t : TubeId)
  /-- The step completes; `held` is the hold reason when SKIP was taken in HELD (R32, R39, R40). -/
  | complete (t : TubeId) (held : Option HoldReason)
  /-- What follows the mark of a completion: notify, loop and link, or the end of the run (R39, R40). -/
  | finish (t : TubeId) (held : Option HoldReason)
  /-- A mark is set by a completing tube (R47). -/
  | markSet (m : MarkId) (t : TubeId)
  /-- A proven edge reaches the blocks that use it (R138). -/
  | edge (p : ProofId) (rising : Bool)
  /-- Activity reaches a tube's idle supervisor, as a set of kinds (R151, R153). -/
  | activity (t : TubeId) (kinds : BitVec 4)
deriving DecidableEq, Repr

/-- The state of the part. -/
structure State where
  tubes : PerTube Tube
  marks : PerMark Mark
  gas : GasAllocator
  power : PowerAllocator
  monitor : Monitor
  bank : BankSettings
  link : FieldLink
  ports : Ports
  /-- Bank error record; none while empty (R161). -/
  bankError : Option BankError
  /-- Bank event requests, one bit per kind in the order of R160. -/
  bankEvents : BitVec 7
  /-- Profile Memory: (address, byte) pairs at address 48 × index + offset, addresses strictly rising, no entry equal to
  what an unlisted address reads as (R1, R5). -/
  profile : List Host.Cell
  /-- Region boundaries (R2). -/
  b0 : Nat
  b1 : Nat
  b2 : Nat
  /-- MODEL's own: acts of the step being taken that are still to run (log entry 2). -/
  jobs : List Job
  /-- MODEL's own: how many free values have been drawn (log entry 1). -/
  free : Nat
  /-- The commands that are waiting, first in, first out. -/
  pending : List Instr
deriving DecidableEq, Repr

/-- Why the block stops with a fault.  It has no constructor: no rule of the spec stops the part, a failed step, a trip
and a refused command all being effects on State (log entry 3).  Safe. -/
inductive Fault
deriving DecidableEq, Repr

/-- Why a command has no meaning. -/
inductive Refusal where
  /-- Raised by an arm of `exec` that has no meaning yet, with its row's mnemonic.  Safe. -/
  | notModelled (mnemonic : String)
deriving DecidableEq, Repr

/-! ### Reading and replacing one part of State -/

/-- One tube. -/
def State.tube (s : State) (t : TubeId) : Tube := s.tubes.get t

/-- The state with one tube replaced. -/
def State.setTube (s : State) (t : TubeId) (x : Tube) : State := { s with tubes := s.tubes.set t x }

/-- One mark. -/
def State.mark (s : State) (m : MarkId) : Mark := s.marks.get m

/-- The state with one mark replaced. -/
def State.setMark (s : State) (m : MarkId) (x : Mark) : State := { s with marks := s.marks.set m x }

/-- One port engine. -/
def State.port (s : State) : Port → PortEngine
  | .station t => s.ports.station.get t
  | .facility => s.ports.facility

/-- The state with one port engine replaced. -/
def State.setPort (s : State) (p : Port) (e : PortEngine) : State :=
  match p with
  | .station t => { s with ports := { s.ports with station := s.ports.station.set t e } }
  | .facility => { s with ports := { s.ports with facility := e } }

/-! ### Reset -/

/-- A proof at power-on: proven false, raw false (every node is stale, R132), count 0, enables clear (Table 56). -/
def Proof.powerOn (source : Source) (debounce : Nat) : Proof :=
  { source := source, raw := false, proven := false, debounce := debounce, count := 0, riseEnable := false,
    fallEnable := false }

/-- The line configuration at power-on: line 0 INERT with maximum 30,000, lines 1 to 5 unmapped with maximum 0 (R70). -/
def LineConfig.powerOn : PerLine LineConfig :=
  let u : LineConfig := { header := none, maximum := 0 }
  { l0 := { header := some .inert, maximum := 30000 }, l1 := u, l2 := u, l3 := u, l4 := u, l5 := u }

/-- The tube settings at power-on (Tables 35, 41, 53, 56, 67, R24, R42). -/
def TubeSettings.powerOn : TubeSettings :=
  { faultAction := .hold, enables := 0, lines := LineConfig.powerOn, tmax := 12000, stroke := 24000,
    standbyFlow := 0, idleFlow := 0, idleTemperature := 4000, idleRate := 500, idlePeriod := 0, activityMask := 0,
    wakeMask := 0, pushBand := 50, bandLimit := 0, sealBand := 50, exhLow := 20, exhHigh := 30 }

/-- Six lines at 0. -/
def zeroLines : PerLine Nat := ⟨0, 0, 0, 0, 0, 0⟩

/-- No grant, every line 0, the emergency mark clear (R86). -/
def TubeGas.zero : TubeGas := { grant := zeroLines, command := zeroLines, emergency := false }

/-- A tube at power-on (Tables 17, 29, 36, 51, 56, 67). -/
def Tube.powerOn : Tube :=
  { mode := .outOfService, step := none, loopOwner := none, loopLeft := 0, events := 0, lastFault := none,
    setpoint := 0, offsets := ⟨0, 0, 0⟩, idleAcc := 0, position := 0, taken := false, gas := TubeGas.zero,
    exhProof := Proof.powerOn .externalPass 10, sealProof := Proof.powerOn .externalPass 0,
    otcProof := Proof.powerOn .externalPass 0, flowProof := Proof.powerOn .internal 0, flowSettle := 0,
    settings := TubeSettings.powerOn }

/-- A clear mark without waiters (Table 24). -/
def Mark.clear : Mark := { set := false, setter := none, waiters := [] }

/-- A node's status after power-on and bank reset: STALE by MISSED, no miss, its poll due; the safe exchange is due for
every node but the bank node (Table 63). -/
def NodeStatus.reset (safe : Bool) : NodeStatus :=
  { fresh := false, cause := .missed, misses := 0, pollDue := true, safeDue := safe }

/-- A node after power-on and bank reset: no reading (Table 63). -/
def Node.reset {ρ : Type} (safe : Bool) : Node ρ := { reading := none, status := NodeStatus.reset safe }

/-- The Field Link Master after power-on (Table 63). -/
def FieldLink.powerOn : FieldLink :=
  { zones := PerTube.of fun _ => PerZone.of fun _ => Node.reset true
    flows := PerTube.of fun _ => Node.reset true
    loaders := PerTube.of fun _ => Node.reset true
    bank := Node.reset false
    exchange := none }

/-- A port engine after power-on: nothing received, CTS raised, no reject, a note pending (R165).  DESIGN CHOICE: R165 names
neither the reply outstanding nor the frame being sent, and the model has none of either (log entry 39). -/
def PortEngine.powerOn : PortEngine :=
  { rx := none, queue := [], cts := true, replies := [], sending := none, rejectFrame := 0, rejectOverrun := none,
    notePending := true }

/-- The Gas Allocator at power-on (Table 42). -/
def GasAllocator.powerOn : GasAllocator :=
  { capacity := ⟨0, 0, 0, 0⟩, reserve := 0, emergencyFlow := 0, policy := .fifo, queue := [] }

/-- The Power Allocator at power-on (Table 46, R101). -/
def PowerAllocator.powerOn : PowerAllocator :=
  { budget := 0, holdReserve := ⟨0, 0, 0, 0⟩, requests := [], grants := [], order := .fixed,
    priority := ⟨0, 1, 2, 3⟩, pointer := .t3, throttle := 1000,
    cmax := PerTube.of fun _ => PerZone.of fun _ => 1000, ceiling := PerTube.of fun _ => PerZone.of fun _ => 0 }

/-- The Condition Monitor's bank state at power-on (Tables 56 and 57). -/
def Monitor.powerOn : Monitor :=
  { latch := true, hold := false, estopProof := Proof.powerOn .externalPass 0, coolingProof := Proof.powerOn .externalPass 10,
    coolingThreshold := 100, tolPct := 5, tolMin := 20, flowSettleTime := 30 }

/-- The bank settings of the sequencers at power-on (R37, Tables 35, 41, 53). -/
def BankSettings.powerOn : BankSettings :=
  { emergencyTime := 300, proofTime := 60, flowLossTime := 5, zoneStaleLimit := 10, inPositionBand := 10,
    settleTime := 10, followLimit := 500, stallTime := 20 }

/-- The machine right after power-on reset, every field at the value its chapter states; the queue of commands is
empty. -/
def State.reset : State :=
  { tubes := PerTube.of fun _ => Tube.powerOn
    marks := PerMark.of fun _ => Mark.clear
    gas := GasAllocator.powerOn
    power := PowerAllocator.powerOn
    monitor := Monitor.powerOn
    bank := BankSettings.powerOn
    link := FieldLink.powerOn
    ports := { station := PerTube.of fun _ => PortEngine.powerOn, facility := PortEngine.powerOn }
    bankError := none
    bankEvents := 0
    profile := []
    b0 := 256
    b1 := 512
    b2 := 768
    jobs := []
    free := 0
    pending := [] }

end Sys2Proof.Machine
end

