-- ==== Sys2Proof/Machine/Operands.lean ====
section
/-!
DEFINITION. How the spec's numbers, records and codes are laid out: byte order (11.5), the codes of Table 75, the
descriptor record of Tables 72 and 72a with one accessor per field, and frames.
-/

namespace Sys2Proof.Machine

open Sys2Proof

/-! ### Multi-byte numbers: unsigned, least significant byte first (11.5) -/

/-- A number as `n` bytes, least significant first. -/
def le : Nat → Nat → List Byte
  | 0, _ => []
  | n + 1, v => BitVec.ofNat 8 v :: le n (v / 256)

/-- The number that bytes spell, least significant first. -/
def fromLe : List Byte → Nat
  | [] => 0
  | b :: bs => b.toNat + 256 * fromLe bs

/-- The components of a value, taken off the front of a byte list by their widths. -/
def splitLe : List Nat → List Byte → List Nat
  | [], _ => []
  | w :: ws, bs => fromLe (bs.take w) :: splitLe ws (bs.drop w)

/-- Components laid out one after another at their widths. -/
def joinLe (fields : List (Nat × Nat)) : List Byte := fields.flatMap fun f => le f.1 f.2

/-- Two's complement of 16 bits as a signed number (11.5: offsets). -/
def signed16 (v : Nat) : Int := if v < 32768 then (v : Int) else (v : Int) - 65536

/-- A signed number as 16 bits of two's complement. -/
def unsigned16 (v : Int) : Nat := if v < 0 then (v + 65536).toNat else v.toNat

/-- An optional index: 65,535 when absent (11.5). -/
def optIndex : Option Nat → Nat
  | some i => i
  | none => 65535

/-- A yes/no or presence byte. -/
def bit (b : Bool) : Nat := if b then 1 else 0

/-! ### Codes -/

end Sys2Proof.Machine

namespace Sys2Proof

/-- A tube's number. -/
def TubeId.num : TubeId → Nat
  | .t0 => 0
  | .t1 => 1
  | .t2 => 2
  | .t3 => 3

/-- The tube of a number, none above 3 (R157). -/
def TubeId.ofNat? : Nat → Option TubeId
  | 0 => some .t0
  | 1 => some .t1
  | 2 => some .t2
  | 3 => some .t3
  | _ => none

/-- The tube after this one, mod 4 (R108). -/
def TubeId.next : TubeId → TubeId
  | .t0 => .t1
  | .t1 => .t2
  | .t2 => .t3
  | .t3 => .t0

/-- A zone's number in its tube. -/
def ZoneId.num : ZoneId → Nat
  | .loadEnd => 0
  | .centre => 1
  | .sourceEnd => 2

/-- The tube and zone of a zone index 0 to 11 (Table 46, note 1). -/
def zoneOfIndex? (i : Nat) : Option (TubeId × ZoneId) :=
  match TubeId.ofNat? (i / 3), i % 3 with
  | some t, 0 => some (t, .loadEnd)
  | some t, 1 => some (t, .centre)
  | some t, 2 => some (t, .sourceEnd)
  | _, _ => none

/-- A line's number. -/
def LineId.num : LineId → Nat
  | .l0 => 0
  | .l1 => 1
  | .l2 => 2
  | .l3 => 3
  | .l4 => 4
  | .l5 => 5

/-- The line of a number, none above 5. -/
def LineId.ofNat? : Nat → Option LineId
  | 0 => some .l0
  | 1 => some .l1
  | 2 => some .l2
  | 3 => some .l3
  | 4 => some .l4
  | 5 => some .l5
  | _ => none

/-- A header's code (Table 75). -/
def Header.num : Header → Nat
  | .inert => 0
  | .oxidant => 1
  | .reducing => 2
  | .carrier => 3

/-- The header of a code, none above 3. -/
def Header.ofNat? : Nat → Option Header
  | 0 => some .inert
  | 1 => some .oxidant
  | 2 => some .reducing
  | 3 => some .carrier
  | _ => none

/-- A mark's number. -/
def MarkId.num : MarkId → Nat
  | .m0 => 0
  | .m1 => 1
  | .m2 => 2
  | .m3 => 3
  | .m4 => 4
  | .m5 => 5
  | .m6 => 6
  | .m7 => 7

/-- The mark of a number, none above 7 (R50). -/
def MarkId.ofNat? : Nat → Option MarkId
  | 0 => some .m0
  | 1 => some .m1
  | 2 => some .m2
  | 3 => some .m3
  | 4 => some .m4
  | 5 => some .m5
  | 6 => some .m6
  | 7 => some .m7
  | _ => none

/-- A tube proof's code (Table 75). -/
def TubeProof.num : TubeProof → Nat
  | .exh => 0
  | .sealed => 1
  | .otc => 2
  | .flow => 3

/-- The tube proof of a code. -/
def TubeProof.ofNat? : Nat → Option TubeProof
  | 0 => some .exh
  | 1 => some .sealed
  | 2 => some .otc
  | 3 => some .flow
  | _ => none

/-- A bank proof's code (Table 75). -/
def BankProof.num : BankProof → Nat
  | .estop => 0
  | .cooling => 1

/-- The bank proof of a code. -/
def BankProof.ofNat? : Nat → Option BankProof
  | 0 => some .estop
  | 1 => some .cooling
  | _ => none

/-- A node's address (Table 62). -/
def NodeId.address : NodeId → Nat
  | .zone t z => 3 * t.num + z.num
  | .flow t => 12 + t.num
  | .loader t => 16 + t.num
  | .bank => 20

/-- The node of an address, none above 20 (Table 62). -/
def NodeId.ofAddress? (a : Nat) : Option NodeId :=
  if a < 12 then (zoneOfIndex? a).map fun x => .zone x.1 x.2
  else if a < 16 then (TubeId.ofNat? (a - 12)).map .flow
  else if a < 20 then (TubeId.ofNat? (a - 16)).map .loader
  else if a = 20 then some .bank
  else none

end Sys2Proof

namespace Sys2Proof.Machine

open Sys2Proof

/-- A line's header code: 0 to 3, or 4 for unmapped (Table 75). -/
def headerCode : Option Header → Nat
  | some h => h.num
  | none => 4

/-- The header choice of a code: some of a header or of unmapped, or none where the code names no choice (R70). -/
def headerChoice? (c : Nat) : Option (Option Header) :=
  if c = 4 then some none else (Header.ofNat? c).map some

/-- A source's code (Table 75). -/
def Source.num : Source → Nat
  | .internal => 0
  | .externalPass => 1
  | .externalComplement => 2
  | .fixedTrue => 3
  | .fixedFalse => 4

/-- The source of a code. -/
def Source.ofNat? : Nat → Option Source
  | 0 => some .internal
  | 1 => some .externalPass
  | 2 => some .externalComplement
  | 3 => some .fixedTrue
  | 4 => some .fixedFalse
  | _ => none

/-- A fault, trip or error kind's code (Table 75). -/
def Kind.num : Kind → Nat
  | .stepInvalid => 1
  | .proofTimeout => 2
  | .gasLost => 3
  | .bandTimeout => 4
  | .syncTimeout => 5
  | .pushStall => 6
  | .zoneStale => 7
  | .exhLost => 8
  | .otcLost => 9
  | .sealLost => 10
  | .estop => 11
  | .bankStop => 12
  | .headerCut => 13

/-- A refusal reason's code (Table 75). -/
def Reason.num : Reason → Nat
  | .notOwner => 1
  | .notReady => 2
  | .badState => 3
  | .bankStopped => 4
  | .bankHold => 5
  | .outOfRegion => 6
  | .tubeActive => 7
  | .badValue => 8
  | .unknown => 9

/-- The action of a code: 1 to 7, other values name none (Table 72). -/
def Action.ofCode? : Nat → Option Action
  | 1 => some .ramp
  | 2 => some .soak
  | 3 => some .purge
  | 4 => some .push
  | 5 => some .pull
  | 6 => some .sync
  | 7 => some .endRun
  | _ => none

/-- The fault_action of a code (Table 75). -/
def FaultAction.ofNat? : Nat → Option FaultAction
  | 0 => some .hold
  | 1 => some .abort
  | _ => none

/-- A fault_action's code. -/
def FaultAction.num : FaultAction → Nat
  | .hold => 0
  | .abort => 1

/-- The policy of a code (Table 75). -/
def Policy.ofNat? : Nat → Option Policy
  | 0 => some .fifo
  | 1 => some .fitFirst
  | _ => none

/-- A policy's code. -/
def Policy.num : Policy → Nat
  | .fifo => 0
  | .fitFirst => 1

/-- The ramp order of a code (Table 75). -/
def RampOrder.ofNat? : Nat → Option RampOrder
  | 0 => some .fixed
  | 1 => some .rotate
  | _ => none

/-- A ramp order's code. -/
def RampOrder.num : RampOrder → Nat
  | .fixed => 0
  | .rotate => 1

/-- A tube state's code (Table 73). -/
def Mode.num : Mode → Nat
  | .outOfService => 0
  | .settling _ => 1
  | .idle _ => 2
  | .idlePurge => 3
  | .running _ => 4
  | .held _ _ => 5
  | .aborting _ => 6

/-- A hold reason's code (Table 73). -/
def HoldReason.num : HoldReason → Nat
  | .station => 1
  | .fault => 2
  | .invalid => 3
  | .bank => 4

/-- The hold reason byte: 0 outside HELD (Table 73). -/
def Mode.holdCode : Mode → Nat
  | .held r _ => r.num
  | _ => 0

/-- A phase's code (Table 73). -/
def Phase.num : Phase → Nat
  | .notStarted => 1
  | .acquire => 2
  | .prove => 3
  | .execute => 4

/-- The phase of RUNNING and HELD (Table 15). -/
def Mode.phase? : Mode → Option Phase
  | .running ph => some ph
  | .held _ ph => some ph
  | _ => none

/-- The phase byte: 0 outside RUNNING and HELD (Table 73). -/
def Mode.phaseCode (m : Mode) : Nat := (m.phase?.map Phase.num).getD 0

/-- RUNNING or HELD: the states in which a trip acts (R43). -/
def Mode.isRun : Mode → Bool
  | .running _ => true
  | .held _ _ => true
  | _ => false

/-- In service: every state but OUT_OF_SERVICE (Table 46, note 3). -/
def Mode.inService : Mode → Bool
  | .outOfService => false
  | _ => true

/-- SETTLING (R26). -/
def Mode.isSettling : Mode → Bool
  | .settling _ => true
  | _ => false

/-- IDLE. -/
def Mode.isIdle : Mode → Bool
  | .idle _ => true
  | _ => false

/-! ### The descriptor record (Tables 72 and 72a) -/

/-- Byte `k` of a record. -/
def recByte (r : List Byte) (k : Nat) : Nat := (r.getD k 0).toNat

/-- The two bytes `k`, `k + 1` of a record. -/
def recWord (r : List Byte) (k : Nat) : Nat := recByte r k + 256 * recByte r (k + 1)

/-- The action, none where the code names none (Table 72, byte 0). -/
def recAction (r : List Byte) : Option Action := Action.ofCode? (recByte r 0)

/-- gas_set presence byte. -/
def recGasMark (r : List Byte) : Nat := recByte r 1

/-- gas_set entry count. -/
def recGasCount (r : List Byte) : Nat := recByte r 2

/-- offsets presence byte. -/
def recOffsetsMark (r : List Byte) : Nat := recByte r 3

/-- mark_set presence byte. -/
def recMarkSetMark (r : List Byte) : Nat := recByte r 4

/-- loop presence byte. -/
def recLoopMark (r : List Byte) : Nat := recByte r 5

/-- next presence byte. -/
def recNextMark (r : List Byte) : Nat := recByte r 6

/-- notify byte. -/
def recNotify (r : List Byte) : Nat := recByte r 7

/-- mark_set. -/
def recMarkSet (r : List Byte) : Nat := recByte r 8

/-- passes. -/
def recPasses (r : List Byte) : Nat := recByte r 9

/-- loop_to. -/
def recLoopTo (r : List Byte) : Nat := recWord r 10

/-- next. -/
def recNext (r : List Byte) : Nat := recWord r 12

/-- The three offsets, two's complement (Table 72, bytes 14 to 19). -/
def recOffsets (r : List Byte) : PerZone Int :=
  { loadEnd := signed16 (recWord r 14), centre := signed16 (recWord r 16), sourceEnd := signed16 (recWord r 18) }

/-- gas_set entry `i` (0 to 5): line and flow (Table 72, bytes 20 to 37). -/
def recGasEntry (r : List Byte) (i : Nat) : Nat × Nat := (recByte r (20 + 3 * i), recWord r (21 + 3 * i))

/-- The gas_set's entries, as many as the count says, at most six. -/
def recGasEntries (r : List Byte) : List (Nat × Nat) :=
  ([0, 1, 2, 3, 4, 5].take (recGasCount r)).map (recGasEntry r)

/-- target of RAMP, PUSH and PULL. -/
def recTarget (r : List Byte) : Nat := recWord r 38

/-- rate of RAMP. -/
def recRate (r : List Byte) : Nat := recWord r 40

/-- ramp_power of RAMP. -/
def recRampPower (r : List Byte) : Nat := recWord r 42

/-- band of RAMP and SOAK. -/
def recBand (r : List Byte) : Nat := recWord r 44

/-- duration of SOAK, low half then high half. -/
def recDuration (r : List Byte) : Nat := recWord r 38 + 65536 * recWord r 40

/-- on_time of PURGE. -/
def recOnTime (r : List Byte) : Nat := recWord r 38

/-- off_time of PURGE. -/
def recOffTime (r : List Byte) : Nat := recWord r 40

/-- off_flow of PURGE. -/
def recOffFlow (r : List Byte) : Nat := recWord r 42

/-- pulses of PURGE. -/
def recPulses (r : List Byte) : Nat := recByte r 46

/-- outer_speed of PUSH and PULL. -/
def recOuterSpeed (r : List Byte) : Nat := recWord r 40

/-- inner_speed of PUSH and PULL. -/
def recInnerSpeed (r : List Byte) : Nat := recWord r 42

/-- slow_point of PUSH and PULL. -/
def recSlowPoint (r : List Byte) : Nat := recWord r 44

/-- mark_wait of SYNC. -/
def recMarkWait (r : List Byte) : Nat := recByte r 38

/-- consume of SYNC. -/
def recConsume (r : List Byte) : Nat := recByte r 39

/-- wait_limit of SYNC. -/
def recWaitLimit (r : List Byte) : Nat := recWord r 40

/-- The flow that a gas_set gives a line: as listed, 0 where not listed (R72, step 1). -/
def recFlow (r : List Byte) (l : LineId) : Nat :=
  match (recGasEntries r).find? fun e => e.1 == l.num with
  | some e => e.2
  | none => 0

/-- The six new line flows of a gas_set (R72, step 1). -/
def recFlows (r : List Byte) : PerLine Nat := PerLine.of (recFlow r)

/-- A gas_set takes part in the step: it is present, and the action is not END, which ignores it (Table 8). -/
def recHasGas (r : List Byte) : Bool := recGasMark r == 1 && recAction r != some .endRun

/-- The power-on END record: action 7 with every other byte 0 (R5, Table 72a note 4). -/
def powerOnRecord : List Byte := 7 :: List.replicate 47 0

/-! ### Frames (Table 70) -/

/-- CHECK of a frame: LEN + CODE + payload + CHECK is 0 mod 256. -/
def frameCheck (f : Frame) : Byte :=
  0 - (BitVec.ofNat 8 f.payload.length + f.code + f.payload.foldl (· + ·) 0)

/-- The bytes of a frame on the wire. -/
def frameBytes (f : Frame) : List Byte :=
  Config.syncByte :: BitVec.ofNat 8 f.payload.length :: f.code :: (f.payload ++ [frameCheck f])

/-- The ACK of a command: its CODE and data (Table 71). -/
def ackFrame (code : Byte) (data : List Byte) : Frame := { code := 0x80, payload := code :: data }

/-- The REFUSE of a command: reason and CODE (Table 71). -/
def refuseFrame (code : Byte) (why : Reason) : Frame :=
  { code := 0x81, payload := [BitVec.ofNat 8 why.num, code] }

/-- ACK and REFUSE are the reply frames (Table 71). -/
def Frame.isReply (f : Frame) : Bool := f.code == 0x80 || f.code == 0x81

end Sys2Proof.Machine
end

