-- ==== Sys2Proof/Machine/Ops.lean ====
section
/-!
DEFINITION. The named operations over State that every chapter uses: one tube updated, events and records, the Profile
Memory, the acts still to run, free orders, and the quantities the spec derives from State (grant sums, commitment, zone
setpoints, sent flows).
-/

namespace Sys2Proof.Machine

open Sys2Proof

/-! ### One part of State updated -/

/-- One tube updated. -/
def State.modTube (s : State) (t : TubeId) (f : Tube → Tube) : State := s.setTube t (f (s.tube t))

/-- A tube's state replaced. -/
def State.setMode (s : State) (t : TubeId) (m : Mode) : State := s.modTube t fun x => { x with mode := m }

/-- A tube's active step record replaced. -/
def State.setStep (s : State) (t : TubeId) (st : Option ActiveStep) : State :=
  s.modTube t fun x => { x with step := st }

/-- A tube's settings updated. -/
def State.modSettings (s : State) (t : TubeId) (f : TubeSettings → TubeSettings) : State :=
  s.modTube t fun x => { x with settings := f x.settings }

/-- One port engine updated. -/
def State.modPort (s : State) (p : Port) (f : PortEngine → PortEngine) : State := s.setPort p (f (s.port p))

/-- A proof of the part. -/
def State.proof (s : State) : ProofId → Proof
  | .tube t .exh => (s.tube t).exhProof
  | .tube t .sealed => (s.tube t).sealProof
  | .tube t .otc => (s.tube t).otcProof
  | .tube t .flow => (s.tube t).flowProof
  | .bank .estop => s.monitor.estopProof
  | .bank .cooling => s.monitor.coolingProof

/-- A proof replaced. -/
def State.setProof (s : State) (p : ProofId) (x : Proof) : State :=
  match p with
  | .tube t .exh => s.modTube t fun u => { u with exhProof := x }
  | .tube t .sealed => s.modTube t fun u => { u with sealProof := x }
  | .tube t .otc => s.modTube t fun u => { u with otcProof := x }
  | .tube t .flow => s.modTube t fun u => { u with flowProof := x }
  | .bank .estop => { s with monitor := { s.monitor with estopProof := x } }
  | .bank .cooling => { s with monitor := { s.monitor with coolingProof := x } }

/-- The proven value of a tube's proof. -/
def State.proven (s : State) (t : TubeId) (k : TubeProof) : Bool := (s.proof (.tube t k)).proven

/-- The action of a tube's active step, none where there is no step or its code names no action. -/
def Tube.action (x : Tube) : Option Action := x.step.bind fun st => recAction st.record

/-! ### Events and records -/

/-- An event's bit number (Table 18, from 0). -/
def Event.num : Event → Nat
  | .stepDone => 0
  | .runEnd => 1
  | .fault => 2
  | .trip => 3
  | .held => 4
  | .rampHeld => 5
  | .rampWait => 6
  | .gasWait => 7
  | .flowCut => 8
  | .purgeDegraded => 9
  | .proofRise => 10
  | .proofFall => 11
  | .idleEntered => 12
  | .wake => 13
  | .inService => 14

/-- A bank event's bit number (R160, from 0). -/
def BankEvent.num : BankEvent → Nat
  | .headerCut => 0
  | .throttleOn => 1
  | .throttleOff => 2
  | .grantRevoked => 3
  | .estop => 4
  | .coolingLost => 5
  | .errorRecorded => 6

/-- An activity kind's bit number (Table 76, note 3). -/
def Activity.num : Activity → Nat
  | .portCommand => 0
  | .sealChange => 1
  | .proofChange => 2
  | .markSet => 3

/-- The set of one tube event kind. -/
def Event.bit (e : Event) : BitVec 15 := BitVec.ofNat 15 (2 ^ e.num)

/-- The set of one bank event kind. -/
def BankEvent.bit (e : BankEvent) : BitVec 7 := BitVec.ofNat 7 (2 ^ e.num)

/-- The set of one activity kind. -/
def Activity.bit (a : Activity) : BitVec 4 := BitVec.ofNat 4 (2 ^ a.num)

/-- An event of a tube occurs: its kind joins the requests if its enable is set (R24). -/
def State.raise (s : State) (t : TubeId) (e : Event) : State :=
  s.modTube t fun x =>
    if x.settings.enables &&& e.bit = 0 then x else { x with events := x.events ||| e.bit }

/-- A bank event occurs: bank events have no enables (R160). -/
def State.raiseBank (s : State) (e : BankEvent) : State := { s with bankEvents := s.bankEvents ||| e.bit }

/-- The bank error record is overwritten and ERROR_RECORDED raised (R161). -/
def State.recordError (s : State) (e : BankError) : State := { s with bankError := some e }.raiseBank .errorRecorded

/-- A tube's last fault record is overwritten (R44). -/
def State.recordFault (s : State) (t : TubeId) (f : FaultRecord) : State :=
  s.modTube t fun x => { x with lastFault := some f }

/-! ### The Profile Memory (R1, R5) -/

/-- What an unlisted address reads as: the power-on END record, action 7 with every other byte 0 (R5). -/
def cellDefault (a : Nat) : Byte := if a % Config.recordBytes = 0 then 7 else 0

/-- One byte of the Profile Memory. -/
def memRead : List Host.Cell → Nat → Byte
  | [], a => cellDefault a
  | c :: rest, a => if c.1 = a then c.2 else memRead rest a

/-- One byte written, in the canonical form: writing what the address reads as unlisted removes its entry. -/
def memWrite : List Host.Cell → Nat → Byte → List Host.Cell
  | [], a, b => if b = cellDefault a then [] else [(a, b)]
  | c :: rest, a, b =>
    if a < c.1 then (if b = cellDefault a then c :: rest else (a, b) :: c :: rest)
    else if a = c.1 then (if b = cellDefault a then rest else (a, b) :: rest)
    else c :: memWrite rest a b

/-- Bytes written at rising addresses from `a`. -/
def memWriteAll (m : List Host.Cell) (a : Nat) : List Byte → List Host.Cell
  | [] => m
  | b :: bs => memWriteAll (memWrite m a b) (a + 1) bs

/-- The canonical form from address `lo` on: addresses strictly rising, no entry equal to its default. -/
def memWfFrom (lo : Nat) : List Host.Cell → Bool
  | [] => true
  | c :: rest => decide (lo ≤ c.1) && decide (c.2 ≠ cellDefault c.1) && memWfFrom (c.1 + 1) rest

/-- The Profile Memory is in its canonical form. -/
def memWf (m : List Host.Cell) : Bool := memWfFrom 0 m

/-- Consecutive bytes of the Profile Memory. -/
def memReadAll (m : List Host.Cell) (a : Nat) : Nat → List Byte
  | 0 => []
  | n + 1 => memRead m a :: memReadAll m (a + 1) n

/-- The record at an index, taken whole (R1). -/
def State.readRecord (s : State) (i : Nat) : List Byte :=
  memReadAll s.profile (Config.recordBytes * i) Config.recordBytes

/-- The record at an index replaced, taken whole (R1). -/
def State.writeRecord (s : State) (i : Nat) (r : List Byte) : State :=
  { s with profile := memWriteAll s.profile (Config.recordBytes * i) r }

/-- Start bound of a tube's region (R2). -/
def State.regionStart (s : State) : TubeId → Nat
  | .t0 => 0
  | .t1 => s.b0
  | .t2 => s.b1
  | .t3 => s.b2

/-- End bound of a tube's region (R2). -/
def State.regionEnd (s : State) : TubeId → Nat
  | .t0 => s.b0
  | .t1 => s.b1
  | .t2 => s.b2
  | .t3 => Config.descriptors

/-- An index belongs to a tube's region as the boundaries stand (R2). -/
def State.inRegion (s : State) (t : TubeId) (i : Nat) : Bool :=
  decide (s.regionStart t ≤ i) && decide (i < s.regionEnd t)

/-! ### Acts still to run, and free orders -/

/-- Acts put after those already to run. -/
def State.push (s : State) (js : List Job) : State := { s with jobs := s.jobs ++ js }

/-- An element put at a place of a list. -/
def insertAt {α : Type} : Nat → α → List α → List α
  | 0, a, l => a :: l
  | _ + 1, a, [] => [a]
  | n + 1, a, b :: l => b :: insertAt n a l

/-- A list in the free order drawn from `n` on; a list of at most one element has no order to draw (log entry 1). -/
def freeOrder {α : Type} (n : Nat) : List α → List α
  | [] => []
  | [a] => [a]
  | a :: b :: l => insertAt (Config.order n % (l.length + 2)) a (freeOrder (n + 1) (b :: l))

/-- Free values that an order of these elements draws. -/
def freeCost {α : Type} (l : List α) : Nat := if l.length < 2 then 0 else l.length

/-- The state after an order of these elements was drawn. -/
def State.drawn {α : Type} (s : State) (l : List α) : State := { s with free := s.free + freeCost l }

/-- The tubes that meet a condition, in the free order. -/
def State.someTubes (s : State) (c : TubeId → Bool) : List TubeId := freeOrder s.free (TubeId.all.filter c)

/-- The state after `someTubes` drew its order. -/
def State.drewTubes (s : State) (c : TubeId → Bool) : State := s.drawn (TubeId.all.filter c)

/-! ### Derived quantities -/

/-- Sum over the tubes. -/
def sumTubes (f : TubeId → Nat) : Nat := f .t0 + f .t1 + f .t2 + f .t3

/-- Sum over the lines. -/
def sumLines (f : LineId → Nat) : Nat := f .l0 + f .l1 + f .l2 + f .l3 + f .l4 + f .l5

/-- The header of a line of a tube, none where unmapped (R70). -/
def State.lineHeader (s : State) (t : TubeId) (l : LineId) : Option Header :=
  ((s.tube t).settings.lines.get l).header

/-- The maximum of a line of a tube (R70). -/
def State.lineMaximum (s : State) (t : TubeId) (l : LineId) : Nat := ((s.tube t).settings.lines.get l).maximum

/-- The total that line flows draw on a header (R72, step 2). -/
def State.onHeader (s : State) (t : TubeId) (flows : PerLine Nat) (h : Header) : Nat :=
  sumLines fun l => if s.lineHeader t l = some h then flows.get l else 0

/-- A tube's grant on a header, normal or emergency (R71). -/
def State.grantOn (s : State) (t : TubeId) (h : Header) : Nat := s.onHeader t (s.tube t).gas.grant h

/-- A tube's normal grant on a header: 0 while the emergency mark is set (R71, R88). -/
def State.normalGrant (s : State) (t : TubeId) (h : Header) : Nat :=
  if (s.tube t).gas.emergency then 0 else s.grantOn t h

/-- A tube's emergency grant on INERT (R88). -/
def State.emergencyGrant (s : State) (t : TubeId) : Nat :=
  if (s.tube t).gas.emergency then s.grantOn t .inert else 0

/-- The grant sum Gh (R87). -/
def State.grantSum (s : State) (h : Header) : Nat := sumTubes fun t => s.grantOn t h

/-- The admission limit Lh (R87). -/
def State.headerLimit (s : State) (h : Header) : Nat :=
  match h with
  | .inert => s.gas.capacity.inert - s.gas.reserve
  | h => s.gas.capacity.get h

/-- ΣHt: the hold reserves of the tubes in service (R106). -/
def State.reserveSum (s : State) : Nat :=
  sumTubes fun t => if (s.tube t).mode.inService then s.power.holdReserve.get t else 0

/-- The commitment C: hold reserves of the tubes in service and ramp grants held (R100). -/
def State.commitment (s : State) : Nat := s.reserveSum + (s.power.grants.map RampGrant.amount).sum

/-- Zone setpoint Zz in 0.1 °C: floor(S / 10) + offset, clamped to 0 and Tmax (R53). -/
def Tube.zoneSetpoint (x : Tube) (z : ZoneId) : Nat :=
  let v : Int := (x.setpoint / 10 : Nat) + x.offsets.get z
  if v < 0 then 0 else if (x.settings.tmax : Int) < v then x.settings.tmax else v.toNat

/-- The sent flow of a line (R77). -/
def Tube.sentFlow (x : Tube) (l : LineId) : Nat :=
  match (x.settings.lines.get l).header, l with
  | _, .l0 => x.gas.command.get l
  | some .inert, _ => x.gas.command.get l
  | some _, _ => if x.sealProof.proven then x.gas.command.get l else 0
  | none, _ => 0

/-- The six sent flows of a tube (R77). -/
def Tube.sentFlows (x : Tube) : PerLine Nat := PerLine.of x.sentFlow

/-- Some line of the tube is commanded above 0 (R37, R80). -/
def Tube.anyCommanded (x : Tube) : Bool := LineId.all.any fun l => decide (0 < x.gas.command.get l)

/-- The line is mapped to a header other than INERT (Table 36, note 2). -/
def LineConfig.nonInert (c : LineConfig) : Bool :=
  match c.header with
  | none => false
  | some .inert => false
  | some _ => true

/-- Some non-inert line of the tube is commanded above 0 (R76). -/
def Tube.nonInertCommanded (x : Tube) : Bool :=
  LineId.all.any fun l => (x.settings.lines.get l).nonInert && decide (0 < x.gas.command.get l)

/-- The reading of a zone unit that can be trusted: its temperature while the node is fresh (R60, R147). -/
def State.freshZone (s : State) (t : TubeId) (z : ZoneId) : Option Nat :=
  let n := (s.link.zones.get t).get z
  if n.status.fresh then n.reading.map ZoneReading.temperature else none

/-- Some zone reading of the tube is stale (R58, R62). -/
def State.anyZoneStale (s : State) (t : TubeId) : Bool :=
  ZoneId.all.any fun z => !((s.link.zones.get t).get z).status.fresh

/-- The drive's reading while the node is fresh (R122). -/
def State.freshLoader (s : State) (t : TubeId) : Option LoaderReading :=
  let n := s.link.loaders.get t
  if n.status.fresh then n.reading else none

/-- The tube's power state: a ramp grant is held (R58). -/
def State.hasRampGrant (s : State) (t : TubeId) : Bool := s.power.grants.any fun g => g.tube == t

/-- The tube has an entry in the ramp request set (R102). -/
def State.hasRampRequest (s : State) (t : TubeId) : Bool := s.power.requests.any fun g => g.tube == t

/-- The tube has an entry in the gas request queue (R89). -/
def State.hasGasEntry (s : State) (t : TubeId) : Bool := s.gas.queue.any fun g => g.tube == t

/-- The enable sent to a loader drive (R116). -/
def Tube.loaderEnable (x : Tube) : Bool :=
  x.taken && x.mode.inService && !x.mode.isSettling

/-- The tube is RUNNING in a phase. -/
def State.runningIn (s : State) (t : TubeId) (ph : Phase) : Bool := (s.tube t).mode == .running ph

end Sys2Proof.Machine
end

