-- ==== Sys2Proof/Machine/Check.lean ====
section
/-!
DEFINITION. The load-time check of Table 10 (R19, R20): each check as a number and whether it passes, in order.  A check
that is passed over (the action ignores the field, or an optional part is absent) passes.
-/

namespace Sys2Proof.Machine

open Sys2Proof

/-- A value is in an inclusive range. -/
def within (lo hi v : Nat) : Bool := decide (lo ≤ v) && decide (v ≤ hi)

/-- A presence mark or yes/no byte holds one of its two values (Table 72a, note 1). -/
def isFlag (v : Nat) : Bool := decide (v ≤ 1)

/-- One gas_set entry: a line 0 to 5, not listed earlier, mapped, its flow within 50,000 and the line's maximum, and
mapped to INERT where the action asks it (check 2). -/
def gasEntryOk (lines : PerLine LineConfig) (inertOnly : Bool) (earlier : List Nat) (e : Nat × Nat) : Bool :=
  match LineId.ofNat? e.1 with
  | none => false
  | some l =>
    let c := lines.get l
    !earlier.contains e.1 && c.header.isSome && decide (e.2 ≤ 50000) && decide (e.2 ≤ c.maximum) &&
      (!inertOnly || c.header == some .inert)

/-- The entries of a gas_set, judged in the order in which they are listed (check 2). -/
def gasEntriesOk (lines : PerLine LineConfig) (inertOnly : Bool) : List Nat → List (Nat × Nat) → Bool
  | _, [] => true
  | earlier, e :: rest =>
    gasEntryOk lines inertOnly earlier e && gasEntriesOk lines inertOnly (e.1 :: earlier) rest

/-- Check 2: a gas_set that is present has 0 to 6 entries, each as `gasEntryOk` asks. -/
def gasSetOk (x : Tube) (a : Action) (r : List Byte) : Bool :=
  isFlag (recGasMark r) &&
    (recGasMark r == 0 ||
      (decide (recGasCount r ≤ 6) && gasEntriesOk x.settings.lines (a == .push || a == .pull) [] (recGasEntries r)))

/-- Check 3: a PURGE's gas_set is present and lists line 0 with a flow of at least 1. -/
def purgeGasOk (r : List Byte) : Bool :=
  recGasMark r == 1 && (recGasEntries r).any fun e => e.1 == 0 && decide (1 ≤ e.2)

/-- Check 4: each of the three offsets is −500..+500, when present. -/
def offsetsOk (r : List Byte) : Bool :=
  let o := recOffsets r
  let ok := fun (v : Int) => decide (-500 ≤ v) && decide (v ≤ 500)
  isFlag (recOffsetsMark r) && (recOffsetsMark r == 0 || (ok o.loadEnd && ok o.centre && ok o.sourceEnd))

/-- Check 6: a loader target within the stroke, and not on the wrong side of P. -/
def positionOk (x : Tube) (a : Action) (r : List Byte) : Bool :=
  decide (recTarget r ≤ 30000) && decide (recTarget r ≤ x.settings.stroke) &&
    (if a = .push then decide (x.position ≤ recTarget r) else decide (recTarget r ≤ x.position))

/-- Check 14: off_flow within 50,000, line 0's maximum and the gas_set's line 0 flow. -/
def offFlowOk (x : Tube) (r : List Byte) : Bool :=
  decide (recOffFlow r ≤ 50000) && decide (recOffFlow r ≤ (x.settings.lines.get .l0).maximum) &&
    decide (recOffFlow r ≤ recFlow r .l0)

/-- Check 17: slow_point strictly between P and the target. -/
def slowPointOk (x : Tube) (a : Action) (r : List Byte) : Bool :=
  if a = .push then decide (x.position < recSlowPoint r) && decide (recSlowPoint r < recTarget r)
  else decide (recTarget r < recSlowPoint r) && decide (recSlowPoint r < x.position)

/-- Checks 2 to 20 of an action, for the fields that Table 8 gives it. -/
def fieldChecks (x : Tube) (a : Action) (r : List Byte) : List (Nat × Bool) :=
  let gas := [(2, gasSetOk x a r)]
  let offsets := [(4, offsetsOk r)]
  match a with
  | .ramp => gas ++ offsets ++
      [(5, decide (recTarget r ≤ 13000) && decide (recTarget r ≤ x.settings.tmax)), (7, within 1 5000 (recRate r)),
       (8, within 1 10000 (recRampPower r)), (9, within 0 500 (recBand r))]
  | .soak => gas ++ offsets ++ [(9, within 0 500 (recBand r)), (10, within 1 172800 (recDuration r))]
  | .purge => gas ++ [(3, purgeGasOk r)] ++ offsets ++
      [(11, within 1 255 (recPulses r)), (12, within 1 600 (recOnTime r)), (13, within 0 600 (recOffTime r)),
       (14, offFlowOk x r)]
  | .push => gas ++ offsets ++
      [(6, positionOk x a r), (15, within 1 1000 (recOuterSpeed r)), (16, within 1 1000 (recInnerSpeed r)),
       (17, slowPointOk x a r)]
  | .pull => gas ++ offsets ++
      [(6, positionOk x a r), (15, within 1 1000 (recOuterSpeed r)), (16, within 1 1000 (recInnerSpeed r)),
       (17, slowPointOk x a r)]
  | .sync => gas ++ offsets ++
      [(18, within 0 7 (recMarkWait r)), (19, isFlag (recConsume r)), (20, within 0 65535 (recWaitLimit r))]
  | .endRun => []

/-- Checks 22 to 24: loop_to, passes and next, which END ignores (Table 8). -/
def linkChecks (s : State) (t : TubeId) (i : Nat) (r : List Byte) : List (Nat × Bool) :=
  [(22, isFlag (recLoopMark r) &&
      (recLoopMark r == 0 || (s.inRegion t (recLoopTo r) && decide (recLoopTo r ≤ i)))),
   (23, recLoopMark r == 0 || within 1 255 (recPasses r)),
   (24, isFlag (recNextMark r) &&
      (if recNextMark r = 1 then s.inRegion t (recNext r) else s.inRegion t (i + 1)))]

/-- Checks 21 to 25, the completion fields (R19, R33). -/
def completionChecks (s : State) (t : TubeId) (i : Nat) (r : List Byte) : List (Nat × Bool) :=
  [(21, isFlag (recMarkSetMark r) && (recMarkSetMark r == 0 || within 0 7 (recMarkSet r)))] ++
    (if recAction r = some .endRun then [] else linkChecks s t i r) ++
    [(25, isFlag (recNotify r))]

/-- The first check of a list that fails. -/
def firstFailure (cs : List (Nat × Bool)) : Option Nat := (cs.find? fun c => !c.2).map Prod.fst

/-- The check of a copy loaded by tube `t` from index `i`: the number of the first check that fails (R19). -/
def stepCheck (s : State) (t : TubeId) (i : Nat) (r : List Byte) : Option Nat :=
  match recAction r with
  | none => some 1
  | some a => firstFailure (fieldChecks (s.tube t) a r ++ completionChecks s t i r)

end Sys2Proof.Machine
end

