-- ==== Sys2Proof/Machine/Flags.lean ====
section
/-!
DEFINITION. What the part shows of its state: the two note summaries (R163, Tables 73 and 74), the ATTN outputs (R162), and
the note-pending flags that follow a change of a summary.
-/

namespace Sys2Proof.Machine

open Sys2Proof

/-- The last fault kind's code, 0 while the record is empty (Table 73). -/
def Tube.faultCode (x : Tube) : Nat := (x.lastFault.map fun f => f.kind.num).getD 0

/-- A tube's summary as the fields of its TUBE_NOTE, each with its width in bytes (R163, Table 73). -/
def State.tubeSummary (s : State) (t : TubeId) : List (Nat × Nat) :=
  let x := s.tube t
  [(1, t.num), (1, x.mode.num), (1, x.mode.holdCode), (1, x.mode.phaseCode),
   (2, optIndex (x.step.map ActiveStep.index)), (1, x.loopLeft), (2, x.events.toNat), (2, x.setpoint / 10),
   (2, x.position), (1, x.faultCode)]

/-- The bank summary as the fields of the BANK_NOTE, each with its width in bytes (R163, Table 74). -/
def State.bankSummary (s : State) : List (Nat × Nat) :=
  [(1, bit s.monitor.latch), (1, bit s.monitor.hold)] ++
    (Header.all.map fun h => (4, s.grantSum h)) ++ (Header.all.map fun h => (4, s.gas.capacity.get h)) ++
    [(2, s.power.budget), (2, s.commitment), (2, s.power.throttle), (1, s.bankEvents.toNat),
     (1, bit s.bankError.isSome)]

/-- The summary that a port reports (R163). -/
def State.summary (s : State) : Port → List (Nat × Nat)
  | .station t => s.tubeSummary t
  | .facility => s.bankSummary

/-- The note of a port, built from its summary as it stands (R163, Tables 71, 73 and 74). -/
def State.note (s : State) (p : Port) : Frame :=
  { code := match p with
      | .station _ => 0x90
      | .facility => 0x91
    payload := joinLe (s.summary p) }

/-- A port's ATTN output: an event request held whose enable is set, or for the facility any bank event request held
(R162). -/
def State.attn (s : State) : Port → Bool
  | .station t => (s.tube t).events &&& (s.tube t).settings.enables != 0
  | .facility => s.bankEvents != 0

/-- The five ports. -/
def allPorts : List Port := [.station .t0, .station .t1, .station .t2, .station .t3, .facility]

/-- A port's note falls pending, whether its summary has changed or not (R95, R163). -/
def State.demandNote (s : State) (p : Port) : State := s.modPort p fun e => { e with notePending := true }

/-- A port's note falls pending when the summary that it reports has changed since `old` (R163). -/
def State.notePort (old : State) (s : State) (p : Port) : State :=
  if s.summary p = old.summary p then s else s.demandNote p

/-- Every port's note-pending flag follows the change of its summary since `old` (R163). -/
def State.noteWatch (s old : State) : State := allPorts.foldl (State.notePort old) s

/-- The facility's note falls pending at each change of a grant sum, of C, B or k, one that a later change of the same act
takes back included (R88, R95, R100, R163). -/
def State.noteBank (s old : State) : State := State.notePort old s .facility

/-- One tube updated, its station's note falling pending where that changes its summary, taken back later in the same act
or not (R163). -/
def State.modTubeNoted (s : State) (t : TubeId) (f : Tube → Tube) : State := State.notePort s (s.modTube t f) (.station t)

end Sys2Proof.Machine
end

