-- ==== Sys2Proof/Machine/Proofs.lean ====
section
/-!
DEFINITION. The Condition Monitor's shared operations (chapter 8): raw values under each source, the debounce, the FLOW
settle hold, and the watch on sent flows.  A proven edge is put to the acts still to run (`Job.edge`).
-/

namespace Sys2Proof.Machine

open Sys2Proof

/-! ### Raw values -/

/-- The bank node's latest reading while the node is fresh (R132). -/
def State.freshBank (s : State) : Option BankReading :=
  if s.link.bank.status.fresh then s.link.bank.reading else none

/-- A raw value taken from a contact of the bank node, or fixed; `internal` is the value of the INTERNAL source (R132). -/
def rawFrom (source : Source) (contact : Option Bool) (internal : Bool) : Bool :=
  match source with
  | .internal => internal
  | .externalPass => contact.getD false
  | .externalComplement => (contact.map not).getD false
  | .fixedTrue => true
  | .fixedFalse => false

/-- EXH under INTERNAL: the exhaust differential with hysteresis; false while the bank node is stale (R132, R133). -/
def State.exhInternal (s : State) (t : TubeId) : Bool :=
  let x := s.tube t
  match s.freshBank with
  | none => false
  | some b =>
    if b.exhaust.get t < x.settings.exhLow then false
    else if x.settings.exhHigh < b.exhaust.get t then true
    else x.exhProof.raw

/-- SEAL under INTERNAL: the drive fresh and its actual position at or above the stroke less the seal band (R128). -/
def State.sealInternal (s : State) (t : TubeId) : Bool :=
  match s.freshLoader t with
  | none => false
  | some r => decide ((s.tube t).settings.stroke ≤ r.actual + (s.tube t).settings.sealBand)

/-- A line sent above 0 is within tolerance; a line sent 0 is not judged (R136). -/
def State.lineInTolerance (s : State) (sent measured : Nat) : Bool :=
  sent == 0 || decide (distance measured sent ≤ max (sent * s.monitor.tolPct / 100) s.monitor.tolMin)

/-- FLOW: the flow unit fresh and every judged line within tolerance of its sent flow (R136). -/
def State.flowInternal (s : State) (t : TubeId) : Bool :=
  let n := s.link.flows.get t
  match n.status.fresh, n.reading with
  | true, some m => LineId.all.all fun l => s.lineInTolerance ((s.tube t).sentFlow l) (m.get l)
  | _, _ => false

/-- COOLING under INTERNAL: the cooling flow at or above the threshold (R134). -/
def State.coolingInternal (s : State) : Bool :=
  match s.freshBank with
  | none => false
  | some b => decide (s.monitor.coolingThreshold ≤ b.cooling)

/-- The raw value of a proof as its source gives it now (R132). -/
def State.rawNow (s : State) (p : ProofId) : Bool :=
  match p with
  | .tube t .exh =>
    rawFrom (s.proof p).source (s.freshBank.map fun b => b.exhContact.get t) (s.exhInternal t)
  | .tube t .sealed =>
    rawFrom (s.proof p).source (s.freshBank.map fun b => b.sealSwitch.get t) (s.sealInternal t)
  | .tube t .otc => rawFrom (s.proof p).source (s.freshBank.map fun b => b.otContact.get t) false
  | .tube t .flow => rawFrom (s.proof p).source none (s.flowInternal t)
  | .bank .estop => rawFrom (s.proof p).source (s.freshBank.map fun b => b.estopChain) false
  | .bank .cooling => rawFrom (s.proof p).source (s.freshBank.map fun b => b.coolingContact) s.coolingInternal

/-! ### Debounce -/

/-- The debounce count of a FLOW proof does not run during its flow settle hold (R137). -/
def State.flowHeld (s : State) (p : ProofId) : Bool :=
  match p with
  | .tube t .flow => decide (0 < (s.tube t).flowSettle)
  | _ => false

/-- The proven value takes the raw value, the count stops at 0, and the edge is put to the acts to run (R135, R138). -/
def State.prove (s : State) (p : ProofId) : State :=
  let x := s.proof p
  (s.setProof p { x with proven := x.raw, count := 0 }).push [.edge p x.raw]

/-- A raw value as derived: the count stops at 0 when it agrees with the proven value, and with a debounce time of 0
the change of a raw value is proven at once by `flip` (R135). -/
def State.takeRaw (s : State) (p : ProofId) (raw : Bool) (flip : State → State) : State :=
  let x := s.proof p
  let s' := s.setProof p { x with raw := raw, count := if raw = x.proven then 0 else x.count }
  if raw ≠ x.raw ∧ raw ≠ x.proven ∧ x.debounce = 0 ∧ s.flowHeld p = false then flip s' else s'

/-- FLOW's raw value derived anew (R136). -/
def State.deriveFlow (s : State) (t : TubeId) : State :=
  s.takeRaw (.tube t .flow) (s.rawNow (.tube t .flow)) fun u => u.prove (.tube t .flow)

/-- The end of the flow settle hold: the raw value as it stands is judged, its count starting from 0 (R137). -/
def State.endFlowHold (s : State) (t : TubeId) : State :=
  let p := ProofId.tube t .flow
  let s := s.modTube t fun x => { x with flowSettle := 0 }
  let raw := s.rawNow p
  let s := s.setProof p { s.proof p with raw := raw, count := 0 }
  if raw ≠ (s.proof p).proven ∧ (s.proof p).debounce = 0 then s.prove p else s

/-- The flow settle hold starts, loaded from its setting; with a setting of 0 no hold is made and the change is judged
at once (R137). -/
def State.startFlowHold (s : State) (t : TubeId) : State :=
  if s.monitor.flowSettleTime = 0 then
    if (s.tube t).flowSettle = 0 then s.deriveFlow t else s.endFlowHold t
  else (s.modTube t fun x => { x with flowSettle := s.monitor.flowSettleTime }).deriveFlow t

/-- The watch on sent flows: a change of any sent flow of the tube since `old` starts its flow settle hold (R137). -/
def State.watchSent (s : State) (t : TubeId) (old : PerLine Nat) : State :=
  if (s.tube t).sentFlows = old then s else s.startFlowHold t

/-- A proof proven; a SEAL change that gates a line changes sent flows (R77, R137). -/
def State.proveEdge (s : State) (p : ProofId) : State :=
  match p with
  | .tube t .sealed => (s.prove p).watchSent t (s.tube t).sentFlows
  | p => s.prove p

/-- A proof's raw value derived anew from its source as everything stands (R132). -/
def State.derive (s : State) (p : ProofId) : State := s.takeRaw p (s.rawNow p) fun u => u.proveEdge p

/-- A tube's share of the grant table replaced, with the note of a change of a grant sum (R88). -/
def State.noteGas (s : State) (t : TubeId) (g : TubeGas) : State :=
  (s.modTube t fun x => { x with gas := g }).noteBank s

/-- A tube's share of the grant table replaced and noted, with the watch on its sent flows (R88, R137). -/
def State.setGas (s : State) (t : TubeId) (g : TubeGas) : State := (s.noteGas t g).watchSent t (s.tube t).sentFlows

/-- The six proofs' names that read the bank node, in the order tube by tube, then the bank's (R132). -/
def bankNodeProofs : List ProofId :=
  (TubeId.all.flatMap fun t => [.tube t .exh, .tube t .sealed, .tube t .otc]) ++ [.bank .estop, .bank .cooling]

/-- Every proof of the part. -/
def allProofs : List ProofId :=
  (TubeId.all.flatMap fun t => [.tube t .exh, .tube t .sealed, .tube t .otc, .tube t .flow]) ++
    [.bank .estop, .bank .cooling]

/-- Deriving this proof anew gives its edge at once: its raw value changes away from the proven value and its debounce
time is 0 (R135). -/
def State.flipsNow (s : State) (p : ProofId) : Bool :=
  let x := s.proof p
  s.rawNow p != x.raw && s.rawNow p != x.proven && x.debounce == 0 && !s.flowHeld p

/-- Proofs derived anew.  Those that give an edge at once come last, in a free order (R43, R135, log entry 1), and
all of them are proven before the first edge acts (R112, log entry 32). -/
def State.deriveAll (s : State) (ps : List ProofId) : State :=
  let flips := ps.filter s.flipsNow
  let order := freeOrder s.free flips
  let s' := (ps.filter fun p => !s.flipsNow p).foldl State.derive s
  order.foldl State.derive (s'.drawn flips)

/-! ### The 0.1 s step of the counts -/

/-- The next 0.1 s step gives this proof's edge: its count reaches the debounce time (R135), or its flow settle hold ends and
the raw value as it stands is proven at once with debounce 0 (R137). -/
def State.edgeDue (s : State) (p : ProofId) : Bool :=
  let x := s.proof p
  match p, s.flowHeld p with
  | .tube t .flow, true => decide ((s.tube t).flowSettle ≤ 1) && s.rawNow p != x.proven && x.debounce == 0
  | _, _ => x.raw != x.proven && decide (x.debounce ≤ x.count + 1)

/-- One 0.1 s step of a proof's debounce count, or of the flow settle time in whose hold it does not run (R135, R137).
DESIGN CHOICE: it judges the hold as it stands when the proof's turn in the step comes, so a flow settle time that a SEAL
edge has loaded earlier in the same step loses this step too (log entry 33). -/
def State.countStep (s : State) (p : ProofId) : State :=
  let x := s.proof p
  match p, s.flowHeld p with
  | .tube t .flow, true =>
    if (s.tube t).flowSettle ≤ 1 then s.endFlowHold t
    else s.modTube t fun u => { u with flowSettle := u.flowSettle - 1 }
  | p, _ =>
    if x.raw = x.proven then s
    else if x.debounce ≤ x.count + 1 then s.proveEdge p
    else s.setProof p { x with count := x.count + 1 }

/-- One 0.1 s step of every count of the Condition Monitor.  Counts that go on are stepped first; edges that fall on one
step are taken in a free order (log entries 1 and 4).  DESIGN CHOICE: every proven value of the step has changed before
the first edge acts, so what an edge sets off finds COOLING already lost on that step, whichever edge acts first (R112,
log entry 32); and whether a flow settle time that a SEAL edge loads loses this step too follows from FLOW's own turn
in it (R137, log entry 33). -/
def State.monitorStep (s : State) : State :=
  let due := allProofs.filter s.edgeDue
  let order := freeOrder s.free due
  let s' := (allProofs.filter fun p => !s.edgeDue p).foldl State.countStep s
  order.foldl State.countStep (s'.drawn due)

end Sys2Proof.Machine
end

