-- ==== Sys2Proof/Machine/Gas.lean ====
section
/-!
DEFINITION. The Gas Allocator's operations (chapter 5): the fit test, passes under FIFO and FIT_FIRST, requests,
withdrawals, emergency grants and capacity cuts.  A grant that reaches a tube's sequencer is put to the acts to run.
-/

namespace Sys2Proof.Machine

open Sys2Proof

/-- The gas request queue replaced. -/
def State.setQueue (s : State) (q : List GasEntry) : State := { s with gas := { s.gas with queue := q } }

/-- A tube's entry taken out of the queue. -/
def State.dropGasEntry (s : State) (t : TubeId) : State := s.setQueue (s.gas.queue.filter fun e => e.tube != t)

/-- The request amount on some header is above that header's limit (R91). -/
def State.gasOversize (s : State) (e : GasEntry) : Bool :=
  Header.all.any fun h => decide (s.headerLimit h < e.amount.get h)

/-- The fit test: on every header Gh − gh + rh is at or below Lh (R91). -/
def State.gasFits (s : State) (e : GasEntry) : Bool :=
  Header.all.all fun h =>
    decide (s.grantSum h - s.normalGrant e.tube h + e.amount.get h ≤ s.headerLimit h)

/-- A grant: the entry leaves the queue, the tube's line grants and commands become the new line flows, the BANK_NOTE that
every grant sends falls pending, one whose request amounts are the tube's present grants included (log entry 34), and the
grant reaches the tube's sequencer (R73, R95). -/
def State.grantGas (s : State) (t : TubeId) (flows : PerLine Nat) : State :=
  (((s.dropGasEntry t).setGas t { grant := flows, command := flows, emergency := false }).demandNote .facility).push
    [.granted t]

/-- The rest of a FIFO pass: the first entry that is not oversize and does not fit ends it (R92). -/
def State.fifoPass : List GasEntry → State → State
  | [], s => s
  | e :: rest, s =>
    if e.oversize then State.fifoPass rest s
    else if s.gasFits e then State.fifoPass rest (s.grantGas e.tube e.flows)
    else s

/-- The rest of a FIT_FIRST pass: every entry is judged once where it is reached (R93). -/
def State.fitFirstPass : List GasEntry → State → State
  | [], s => s
  | e :: rest, s =>
    if !e.oversize && s.gasFits e then State.fitFirstPass rest (s.grantGas e.tube e.flows)
    else State.fitFirstPass rest s

/-- A gas pass, taken whole: the oversize flags are recomputed, then the entries are judged under the policy (R91 to
R94). -/
def State.gasPass (s : State) : State :=
  let q := s.gas.queue.map fun e => { e with oversize := s.gasOversize e }
  let s := s.setQueue q
  match s.gas.policy with
  | .fifo => State.fifoPass q s
  | .fitFirst => State.fitFirstPass q s

/-- The four header amounts of new line flows (R72, step 2). -/
def State.gasAmounts (s : State) (t : TubeId) (flows : PerLine Nat) : PerHeader Nat :=
  PerHeader.of (s.onHeader t flows)

/-- A request is a decrease: at or below the tube's normal grant on every header (R90, step 2). -/
def State.gasDecrease (s : State) (t : TubeId) (amount : PerHeader Nat) : Bool :=
  Header.all.all fun h => decide (amount.get h ≤ s.normalGrant t h)

/-- The request in the queue: in its tube's place, or at the end (R90, steps 1 and 3). -/
def State.enqueueGas (s : State) (e : GasEntry) : State :=
  if s.hasGasEntry e.tube then s.setQueue (s.gas.queue.map fun x => if x.tube = e.tube then e else x)
  else s.setQueue (s.gas.queue ++ [e])

/-- GAS_WAIT for a tube whose entry is still in the queue (R90, step 4). -/
def State.gasOutcome (s : State) (t : TubeId) : State := if s.hasGasEntry t then s.raise t .gasWait else s

/-- A request is taken by the Gas Allocator; a tube in ABORTING makes none (R90, R74). -/
def State.gasRequest (s : State) (t : TubeId) (flows : PerLine Nat) : State :=
  match (s.tube t).mode with
  | .aborting _ => s
  | _ =>
    let amount := s.gasAmounts t flows
    if s.gasDecrease t amount then (s.grantGas t flows).gasPass
    else
      let e : GasEntry := { tube := t, amount := amount, flows := flows, oversize := false }
      (s.enqueueGas e).gasPass.gasOutcome t

/-- A queued request is withdrawn: its entry leaves the queue without a grant and a pass runs (R90). -/
def State.withdrawGas (s : State) (t : TubeId) : State :=
  if s.hasGasEntry t then (s.dropGasEntry t).gasPass else s

/-- Line 0 alone at a flow, clamped to line 0's maximum (R82). -/
def State.line0Flows (s : State) (t : TubeId) (v : Nat) : PerLine Nat :=
  { zeroLines with l0 := min v (s.lineMaximum t .l0) }

/-- The standby request (R82). -/
def State.standbyRequest (s : State) (t : TubeId) : State :=
  s.gasRequest t (s.line0Flows t (s.tube t).settings.standbyFlow)

/-- The idle request (R83). -/
def State.idleRequest (s : State) (t : TubeId) : State :=
  s.gasRequest t (s.line0Flows t (s.tube t).settings.idleFlow)

/-- All of a tube's gas is released: no entry in the queue, no grant, every line at 0, the emergency mark clear (R27,
R97). -/
def State.releaseGas (s : State) (t : TubeId) : State := (s.dropGasEntry t).setGas t TubeGas.zero

/-- The emergency flow e: the least of E_flow, the line 0 maximum, and Q_INERT − G_INERT once the tube's normal grant is
released (R96, step 3). -/
def State.emergencyFlowFor (s : State) (t : TubeId) : Nat :=
  min s.gas.emergencyFlow
    (min (s.lineMaximum t .l0) (s.gas.capacity.inert - (s.grantSum .inert - s.grantOn t .inert)))

/-- The emergency grant, as one act with its pass: the release of the normal grant is noted though the emergency grant may
bring G_INERT back to what it was, and the sent flows go from those of the normal grant to those of the emergency grant
(R88, R96, R137, R163). -/
def State.grantEmergency (s : State) (t : TubeId) : State :=
  let e := s.emergencyFlowFor t
  let l : PerLine Nat := { zeroLines with l0 := e }
  let released := (s.dropGasEntry t).noteGas t TubeGas.zero
  let s' := (released.noteGas t { grant := l, command := l, emergency := true }).watchSent t (s.tube t).sentFlows
  (if e < s.gas.emergencyFlow then s'.raise t .purgeDegraded else s').gasPass

/-! ### Capacity cuts -/

/-- The cut factor k in permille (R98, step 1). -/
def State.cutFactor (s : State) (h : Header) (q : Nat) : Nat := 1000 * q / s.grantSum h

/-- A flow scaled by k: floor(f × k / 1000) (R98, step 2). -/
def scaled (k f : Nat) : Nat := f * k / 1000

/-- Line flows of a tube with those on a header scaled (R98, step 2). -/
def State.scaleLines (s : State) (t : TubeId) (h : Header) (k : Nat) (x : PerLine Nat) : PerLine Nat :=
  PerLine.of fun l => if s.lineHeader t l = some h then scaled k (x.get l) else x.get l

/-- The tube runs on the grant of a PURGE step: it is RUNNING or HELD, the step has begun, and no request of it waits
(R81, log entry 12). -/
def State.drawsPurge (s : State) (t : TubeId) : Bool :=
  let x := s.tube t
  x.action == some .purge && x.mode.isRun && x.mode.phase? != some .notStarted && !s.hasGasEntry t

/-- A tube's flows scaled by a cut on a header: line grants, line commands and, on INERT, the phase flows of its PURGE
(R98, step 2, R81). -/
def State.cutTube (h : Header) (k : Nat) (s : State) (t : TubeId) : State :=
  let x := s.tube t
  let s' := s.setGas t { x.gas with
    grant := s.scaleLines t h k x.gas.grant, command := s.scaleLines t h k x.gas.command }
  if h = .inert ∧ s.drawsPurge t = true then
    s'.modTube t fun u => { u with step := u.step.map fun st =>
      { st with purgeHigh := scaled k st.purgeHigh, purgeLow := scaled k st.purgeLow } }
  else s'

/-- The tube events of a cut, by what the tube held before it (R99). -/
def State.cutEvents (before : State) (h : Header) (s : State) (t : TubeId) : State :=
  let s := if 0 < before.normalGrant t h then s.raise t .flowCut else s
  if h = .inert ∧ 0 < before.emergencyGrant t then s.raise t .purgeDegraded else s

/-- The capacity of a header replaced. -/
def State.setCapacity (s : State) (h : Header) (q : Nat) : State :=
  { s with gas := { s.gas with capacity := s.gas.capacity.set h q } }

/-- The tubes RUNNING in PROVE are judged again. -/
def State.judgeProving (s : State) : State :=
  let c := fun t => s.runningIn t .prove
  (s.push ((s.someTubes c).map .judge)).drewTubes c

/-- A capacity cut: every flow on the header is scaled, the capacity taken, the events and HEADER_CUT raised, and a pass
run (R98, R99).  DESIGN CHOICE: the tubes are cut in ascending order, and where the flow settle time and FLOW's debounce
time are 0 their FLOW edges act in that order too (log entry 31); the tubes in PROVE are then judged at once, the grants
that they hold having changed (R37, log entry 27). -/
def State.capacityCut (s : State) (h : Header) (q : Nat) : State :=
  let k := s.cutFactor h q
  let s1 := (TubeId.all.foldl (State.cutTube h k) s).setCapacity h q
  let s2 := TubeId.all.foldl (State.cutEvents s h) s1
  let s3 := (s2.raiseBank .headerCut).recordError
    { kind := .headerCut, tube := none, index := none, field := none }
  s3.gasPass.judgeProving

/-- A capacity as written: below the grant sum a cut, otherwise the value and a pass (R87, R98). -/
def State.writeCapacity (s : State) (h : Header) (q : Nat) : State :=
  if q < s.grantSum h then s.capacityCut h q else (s.setCapacity h q).gasPass

end Sys2Proof.Machine
end

