-- ==== Sys2Proof/Machine/Power.lean ====
section
/-!
DEFINITION. The Power Allocator's operations (chapter 6): revocation, the throttle, the zone ceilings, the pass in
arbitration order, and the sequence that every input runs.
-/

namespace Sys2Proof.Machine

open Sys2Proof

/-- The Power Allocator's state updated, with the note of a change of B, C or k (R100, R163). -/
def State.modPower (s : State) (f : PowerAllocator → PowerAllocator) : State :=
  ({ s with power := f s.power } : State).noteBank s

/-- One revocation: the grant leaves the list, its request rejoins the set, RAMP_WAIT and GRANT_REVOKED are raised
(R109). -/
def State.revoke (s : State) (g : RampGrant) : State :=
  ((s.modPower fun p => { p with
      grants := p.grants.filter fun x => x.tube != g.tube
      requests := p.requests ++ [{ tube := g.tube, amount := g.amount, oversize := false }] }).raise
    g.tube .rampWait).raiseBank .grantRevoked

/-- The budget check, youngest grant first: while C is above B, or until the list is empty for a COOLING loss (R109,
R110). -/
def State.revokeFrom (all : Bool) : List RampGrant → State → State
  | [], s => s
  | g :: rest, s =>
    if all || decide (s.power.budget < s.commitment) then State.revokeFrom all rest (s.revoke g) else s

/-- The throttle factor as B and C give it (R111). -/
def State.throttleNow (s : State) : Nat :=
  if s.commitment ≤ s.power.budget then 1000 else 1000 * s.power.budget / s.commitment

/-- k computed anew, with THROTTLE_ON or THROTTLE_OFF (R111). -/
def State.retuneThrottle (s : State) : State :=
  let k := s.throttleNow
  let s' := s.modPower fun p => { p with throttle := k }
  if s.power.throttle = 1000 ∧ k < 1000 then s'.raiseBank .throttleOn
  else if s.power.throttle < 1000 ∧ k = 1000 then s'.raiseBank .throttleOff
  else s'

/-- A zone's ceiling: 0 out of service or with OTC false, otherwise floor(Cmax × k / 1000) (R113). -/
def State.ceilingNow (s : State) (t : TubeId) (z : ZoneId) : Nat :=
  if (s.tube t).mode.inService && (s.tube t).otcProof.proven then
    (s.power.cmax.get t).get z * s.power.throttle / 1000
  else 0

/-- Every zone ceiling computed anew (R113). -/
def State.recomputeCeilings (s : State) : State :=
  s.modPower fun p => { p with ceiling := PerTube.of fun t => PerZone.of fun z => s.ceilingNow t z }

/-- An entry with this amount is oversize: P is above B − ΣHt (R106). -/
def State.rampOversize (s : State) (amount : Nat) : Bool := decide (s.power.budget < amount + s.reserveSum)

/-- An entry that is not oversize is admissible: COOLING proven true and C + P at or below B (R106). -/
def State.rampAdmissible (s : State) (amount : Nat) : Bool :=
  s.monitor.coolingProof.proven && decide (s.commitment + amount ≤ s.power.budget)

/-- A grant: the entry moves to the end of the grant list and the rotate pointer to its tube (R104, R108). -/
def State.grantRamp (s : State) (r : RampRequest) : State :=
  s.modPower fun p => { p with
    requests := p.requests.filter fun x => x.tube != r.tube
    grants := p.grants ++ [{ tube := r.tube, amount := r.amount }]
    pointer := r.tube }

/-- The arbitration order of a pass: descending priority, or from the tube after the rotate pointer (R107, R108). -/
def PowerAllocator.candidates (p : PowerAllocator) : List TubeId :=
  match p.order with
  | .fixed => [3, 2, 1, 0].flatMap fun (k : Nat) => TubeId.all.filter fun t => p.priority.get t == k
  | .rotate => [p.pointer.next, p.pointer.next.next, p.pointer.next.next.next, p.pointer]

/-- The rest of a pass over the candidates: oversize entries are passed over, and the first candidate that is not
admissible ends the pass (R107). -/
def State.rampPassFrom : List TubeId → State → State
  | [], s => s
  | t :: ts, s =>
    match s.power.requests.find? fun r => r.tube == t with
    | none => State.rampPassFrom ts s
    | some r =>
      if r.oversize then State.rampPassFrom ts s
      else if s.rampAdmissible r.amount then State.rampPassFrom ts (s.grantRamp r)
      else s

/-- A power pass: the oversize flags are recomputed, then the candidates are taken in order (R106 to R108). -/
def State.rampPass (s : State) : State :=
  let s := s.modPower fun p => { p with
    requests := p.requests.map fun r => { r with oversize := s.rampOversize r.amount } }
  State.rampPassFrom s.power.candidates s

/-- RAMP_WAIT for every requesting tube still in the set when a pass ends (R104, R112 step 5, Table 50, log entry 30). -/
def State.raiseWaiting (s : State) : State := s.power.requests.foldl (fun u r => u.raise r.tube .rampWait) s

/-- What taking an input does after the change itself: revocations, k, ceilings and, where `pass` says so, a pass with the
RAMP_WAIT of the tubes that it leaves waiting (R112). -/
def State.powerSequence (s : State) (coolingFell pass : Bool) : State :=
  let s := State.revokeFrom coolingFell s.power.grants.reverse s
  let s := s.retuneThrottle.recomputeCeilings
  if pass then s.rampPass.raiseWaiting else s

/-- An ordinary input of the allocator: the sequence with its pass (R112). -/
def State.powerInput (s : State) : State := s.powerSequence false true

/-- A ramp request: it joins the set and the sequence runs, which raises RAMP_WAIT if it is still in the set (R104). -/
def State.rampRequest (s : State) (t : TubeId) (amount : Nat) : State :=
  (s.modPower fun p => { p with
    requests := p.requests ++ [{ tube := t, amount := amount, oversize := false }] }).powerInput

/-- A tube's ramp grant is released or its request withdrawn; where it had either, the sequence runs (R105). -/
def State.rampRelease (s : State) (t : TubeId) : State :=
  if s.hasRampGrant t || s.hasRampRequest t then
    (s.modPower fun p => { p with
      grants := p.grants.filter fun x => x.tube != t
      requests := p.requests.filter fun x => x.tube != t }).powerInput
  else s

end Sys2Proof.Machine
end

