-- ==== Sys2Proof/Machine/Sequencer.lean ====
section
/-!
DEFINITION. The tube sequencer's shared operations (chapter 2, with the ramp, purge and motion rules that act at a step's
load, start, end and failure): load and check, begin, PROVE, EXECUTE, completion, loop, marks, faults, trips, ABORTING,
standby, idle and wake.  Acts that follow on another act are put to `jobs` and run by `State.runJobs`.
-/

namespace Sys2Proof.Machine

open Sys2Proof

/-! ### Loader position, marks and idle timer -/

/-- A position take: P becomes the drive's last reported position, clamped to the stroke, and the position is taken.
Without any reading there is no reported position and no take is made (R118, log entry 8). -/
def State.positionTake (s : State) (t : TubeId) : State :=
  match (s.link.loaders.get t).reading with
  | none => s
  | some r => s.modTube t fun x => { x with position := min r.actual x.settings.stroke, taken := true }

/-- The tube leaves every mark's waiter list (R49). -/
def State.leaveMarks (s : State) (t : TubeId) : State :=
  { s with marks := PerMark.of fun m =>
      let k := s.marks.get m
      { k with waiters := k.waiters.filter fun w => w.tube != t } }

/-- The tube is on the waiter list of a mark. -/
def State.waitsOn (s : State) (t : TubeId) (m : MarkId) : Bool := (s.mark m).waiters.any fun w => w.tube == t

/-- The idle timer as loaded: 60 × the idle period, stopped for a period of 0 (R150). -/
def Tube.loadedTimer (x : Tube) : Option Nat :=
  if x.settings.idlePeriod = 0 then none else some (60 * x.settings.idlePeriod)

/-- The tube is IDLE with its timer loaded afresh (R150). -/
def State.loadIdle (s : State) (t : TubeId) : State := s.setMode t (.idle (s.tube t).loadedTimer)

/-! ### Faults, trips and ABORTING -/

/-- Entry to ABORTING by ABORT, a trip or a fault with fault_action ABORT (R34, R84, R96). -/
def State.enterAborting (s : State) (t : TubeId) : State :=
  let s := (s.dropGasEntry t).setMode t (.aborting s.bank.emergencyTime)
  (((s.grantEmergency t).rampRelease t).leaveMarks t).positionTake t

/-- A step fault of a RUNNING tube: records, FAULT, and HELD (FAULT) or ABORTING by fault_action (R42). -/
def State.stepFault (s : State) (t : TubeId) (k : Kind) : State :=
  match (s.tube t).mode, (s.tube t).step with
  | .running ph, some st =>
    let s := s.recordFault t { kind := k, index := st.index, field := none }
    let s := s.recordError { kind := k, tube := some t, index := some st.index, field := none }
    let s := (s.raise t .fault).leaveMarks t
    match (s.tube t).settings.faultAction with
    | .hold => ((s.setMode t (.held .fault ph)).raise t .held).positionTake t
    | .abort => s.enterAborting t
  | _, _ => s

/-- A trip: on a RUNNING or HELD tube, records, TRIP and ABORTING; on any other, nothing (R43). -/
def State.trip (k : Kind) (s : State) (t : TubeId) : State :=
  match (s.tube t).mode.isRun, (s.tube t).step with
  | true, some st =>
    let s := s.recordFault t { kind := k, index := st.index, field := none }
    let s := s.recordError { kind := k, tube := some t, index := some st.index, field := none }
    (s.raise t .trip).enterAborting t
  | _, _ => s

/-- A trip delivered to every tube, in a free order (R46, R141, log entry 1). -/
def State.tripAll (s : State) (k : Kind) : State :=
  let c := fun t => (s.tube t).mode.isRun
  (s.someTubes c).foldl (State.trip k) (s.drewTubes c)

/-- The bank stop latch set, by an ESTOP edge or by BANK_STOP, with its trips (R141). -/
def State.setLatch (s : State) (k : Kind) : State :=
  ({ s with monitor := { s.monitor with latch := true } } : State).tripAll k

/-! ### Idle purge and wake -/

/-- A wake event: IDLE, WAKE, the standby request, the timer (R153). -/
def State.wakeTube (s : State) (t : TubeId) : State :=
  (((s.setMode t (.idle none)).raise t .wake).standbyRequest t).loadIdle t

/-- The expiry of the idle timer: IDLE_PURGE, IDLE_ENTERED, the idle request, the idle ramp (R152). -/
def State.enterIdlePurge (s : State) (t : TubeId) : State :=
  (((s.setMode t .idlePurge).raise t .idleEntered).idleRequest t).modTube t fun x => { x with idleAcc := 0 }

/-- Activity of a set of kinds reaches the tube: it reloads a running timer by the activity mask, or wakes the tube by
the wake mask (R151, R153). -/
def State.takeActivity (s : State) (t : TubeId) (kinds : BitVec 4) : State :=
  let x := s.tube t
  match x.mode with
  | .idle (some _) => if x.settings.activityMask &&& kinds = 0 then s else s.loadIdle t
  | .idlePurge => if x.settings.wakeMask &&& kinds = 0 then s else s.wakeTube t
  | _ => s

/-! ### Load -/

/-- The active step record as loaded: the copy, its check result, and the counters of Table 9 (R18, R78).  DESIGN CHOICE: a
counter that Tables 9 and 38 give to other actions alone is 0 (the pulse number 1, the phase HIGH, the direction not
fixed), so the motion speed reads 0 outside PUSH and PULL and the purge flows 0 outside PURGE (R116); and the purge high
flow of a PURGE copy is the flow of the first entry that names line 0 in the record's bytes, else 0, though its gas_set be
absent or fail (log entry 35). -/
def freshStep (i : Nat) (r : List Byte) (failed : Option Nat) : ActiveStep :=
  let purge := recAction r == some .purge
  let motion := recAction r == some .push || recAction r == some .pull
  { index := i, record := r, failed := failed, rampAcc := 0, rampDir := none, holdFlag := false, bandHold := 0,
    soakCount := 0, pulse := 1, purgePhase := .high, phaseTime := 0,
    purgeHigh := if purge then recFlow r .l0 else 0, purgeLow := if purge then recOffFlow r else 0,
    motionAcc := 0, speed := if motion then recOuterSpeed r else 0, atTarget := false, settleCount := 0,
    followCount := 0, proofTime := 0, flowLoss := 0, zoneStale := 0, syncWait := 0 }

/-- A load whose check failed: the records, FAULT, and HELD (INVALID) at NOT_STARTED (R21). -/
def State.loadFailed (s : State) (t : TubeId) (i field : Nat) : State :=
  let s := s.recordError { kind := .stepInvalid, tube := some t, index := some i, field := some field }
  let s := s.recordFault t { kind := .stepInvalid, index := i, field := some field }
  ((s.raise t .fault).setMode t (.held .invalid .notStarted)).raise t .held

/-- A load with its check and outcome (R18, R21).  `held` is the hold reason when the load was made by a SKIP taken in
HELD: the tube then stays HELD, BANK if it was BANK and otherwise STATION (R32). -/
def State.load (s : State) (t : TubeId) (i : Nat) (held : Option HoldReason) : State :=
  let r := s.readRecord i
  let failed := stepCheck s t i r
  let s := s.setStep t (some (freshStep i r failed))
  match failed, held with
  | some f, _ => s.loadFailed t i f
  | none, some .bank => s.setMode t (.held .bank .notStarted)
  | none, some _ => s.setMode t (.held .station .notStarted)
  | none, none =>
    if s.monitor.hold then (s.setMode t (.held .bank .notStarted)).raise t .held
    else (s.setMode t (.running .notStarted)).push [.beginStep t]

/-! ### ACQUIRE, PROVE and EXECUTE -/

/-- The push band holds: the load-zone reading is fresh and within the push band of Z0 (R119). -/
def State.pushBandHolds (s : State) (t : TubeId) : Bool :=
  match s.freshZone t .loadEnd with
  | none => false
  | some v => decide (distance v ((s.tube t).zoneSetpoint .loadEnd) ≤ (s.tube t).settings.pushBand)

/-- The tube holds no grant on OXIDANT, REDUCING or CARRIER (R119). -/
def State.noNonInertGrant (s : State) (t : TubeId) : Bool :=
  s.normalGrant t .oxidant == 0 && s.normalGrant t .reducing == 0 && s.normalGrant t .carrier == 0

/-- The conditions of PROVE (Table 21, R37, R119). -/
def State.proveHolds (s : State) (t : TubeId) : Bool :=
  let x := s.tube t
  let motion := x.action == some .push || x.action == some .pull
  x.exhProof.proven && (!x.anyCommanded || x.flowProof.proven) && (!x.nonInertCommanded || x.sealProof.proven) &&
    (!motion || (s.noNonInertGrant t && s.pushBandHolds t))

/-- The mark that a SYNC step waits on. -/
def ActiveStep.markWait (st : ActiveStep) : Option MarkId := MarkId.ofNat? (recMarkWait st.record)

/-- The tube takes a set mark: it leaves the list, a consuming one clears the mark, and its step completes (R48). -/
def State.takeMark (s : State) (t : TubeId) (m : MarkId) (consume : Bool) : State :=
  let s := s.leaveMarks t
  let k := s.mark m
  (s.setMark m (if consume then { k with set := false, setter := none } else k)).push [.complete t none]

/-- A SYNC step in EXECUTE is judged: a set mark is taken; for a clear one the tube joins the end of its list and the
wait starts from 0, unless it is on the list already, where it stays in its place (R48, R49). -/
def State.judgeSync (s : State) (t : TubeId) : State :=
  match (s.tube t).step with
  | none => s
  | some st =>
    match st.markWait with
    | none => s
    | some m =>
      let consume := recConsume st.record == 1
      if (s.mark m).set then s.takeMark t m consume
      else if s.waitsOn t m then s
      else
        let k := s.mark m
        (s.setMark m { k with waiters := k.waiters ++ [{ tube := t, consume := consume }] }).setStep t
          (some { st with syncWait := 0 })

/-- A RAMP enters EXECUTE: its direction is fixed once, an upward ramp sends its request, and one at its target is
complete (R55, R63). -/
def State.startRamp (s : State) (t : TubeId) (st : ActiveStep) : State :=
  let target := 10 * recTarget st.record
  let now := (s.tube t).setpoint
  if st.rampDir.isSome then s
  else if now < target then
    (s.setStep t (some { st with rampDir := some .up })).rampRequest t (recRampPower st.record)
  else if target < now then s.setStep t (some { st with rampDir := some .down })
  else s.push [.complete t none]

/-- P has reached or passed the slow point in the direction of travel (R120, R121). -/
def atSlowPoint (a : Action) (r : List Byte) (p : Nat) : Bool :=
  if a = .pull then decide (p ≤ recSlowPoint r) else decide (recSlowPoint r ≤ p)

/-- A PUSH or PULL enters EXECUTE: P is compared with the target (R120). -/
def State.startMotion (s : State) (t : TubeId) (a : Action) (st : ActiveStep) : State :=
  let p := (s.tube t).position
  let target := recTarget st.record
  let short := if a = .pull then decide (target < p) else decide (p < target)
  if p = target then s.setStep t (some { st with atTarget := true, settleCount := 0 })
  else if short then
    s.setStep t (some { st with
      atTarget := false
      settleCount := 0
      speed := if atSlowPoint a st.record p then recInnerSpeed st.record else st.speed })
  else s.stepFault t .pushStall

/-- The step enters EXECUTE (R38). -/
def State.enterExecute (s : State) (t : TubeId) : State :=
  let s := s.setMode t (.running .execute)
  match (s.tube t).step, (s.tube t).action with
  | some st, some .ramp => s.startRamp t st
  | some st, some .push => s.startMotion t .push st
  | some st, some .pull => s.startMotion t .pull st
  | some _, some .sync => s.judgeSync t
  | some _, some .endRun => s.push [.complete t none]
  | _, _ => s

/-- A step in PROVE is judged: when every required condition holds it enters EXECUTE at once (R37). -/
def State.judgeProve (s : State) (t : TubeId) : State :=
  if s.runningIn t .prove && s.proveHolds t then s.enterExecute t else s

/-- The step enters PROVE with its proof time at 0 and is judged (R37). -/
def State.enterProve (s : State) (t : TubeId) : State :=
  match (s.tube t).mode, (s.tube t).step with
  | .running _, some st =>
    ((s.setStep t (some { st with proofTime := 0 })).setMode t (.running .prove)).judgeProve t
  | _, _ => s

/-- A checked step begins: its offsets take effect, and ACQUIRE makes its request or, without a gas_set, passes straight through to
PROVE (R36, R52, R72). -/
def State.beginStep (s : State) (t : TubeId) : State :=
  match (s.tube t).mode, (s.tube t).step with
  | .running .notStarted, some st =>
    let s := s.setMode t (.running .acquire)
    let s :=
      if recOffsetsMark st.record = 1 ∧ recAction st.record ≠ some .endRun then
        s.modTube t fun x => { x with offsets := recOffsets st.record }
      else s
    if recHasGas st.record then s.gasRequest t (recFlows st.record) else s.enterProve t
  | _, _ => s

/-- A gas grant moves a RUNNING step in ACQUIRE to PROVE; a HELD one stays in ACQUIRE (R73, R30). -/
def State.gasGranted (s : State) (t : TubeId) : State :=
  if s.runningIn t .acquire && !s.hasGasEntry t then s.enterProve t else s

/-! ### Completion -/

/-- The passes remaining once a completing step with a loop owns the register (R41, step 1). -/
def loopEntered (owner : Option Nat) (left i passes : Nat) : Nat := if owner = some i then left else passes - 1

/-- The single-level loop register as a completing step with a loop leaves it, and whether the step jumps back (R41, steps 2
and 3). -/
def loopStep (owner : Option Nat) (left i passes : Nat) : Option Nat × Nat × Bool :=
  let left := loopEntered owner left i passes
  if 0 < left then (some i, left - 1, true) else (none, 0, false)

/-- The loop register as R41 changes it, step by step, each change of passes remaining noted (R163). -/
def State.takeLoop (s : State) (t : TubeId) (st : ActiveStep) : State :=
  let x := s.tube t
  let l := loopStep x.loopOwner x.loopLeft st.index (recPasses st.record)
  (s.modTubeNoted t fun x => { x with
      loopOwner := some st.index
      loopLeft := loopEntered x.loopOwner x.loopLeft st.index (recPasses st.record) }).modTube t fun x =>
    { x with loopOwner := l.1, loopLeft := l.2.1 }

/-- The completion fields of a step hold for its own index as the regions stand: checks 21 to 25 pass (R19, R33). -/
def State.mayLink (s : State) (t : TubeId) (st : ActiveStep) : Bool :=
  (firstFailure (completionChecks s t st.index st.record)).isNone

/-- A completion begins: the ramp grant or request is given up, the tube leaves any waiter list, and the mark named by
mark_set is set before the rest of the completion (R32, R39, R40). -/
def State.completeStep (s : State) (t : TubeId) (held : Option HoldReason) : State :=
  match (s.tube t).mode.isRun, (s.tube t).step with
  | true, some st =>
    let s := (s.rampRelease t).leaveMarks t
    match recMarkSetMark st.record, MarkId.ofNat? (recMarkSet st.record) with
    | 1, some m => s.push [.markSet m t, .finish t held]
    | _, _ => s.push [.finish t held]
  | _, _ => s

/-- The end of a run by END: IDLE, RUN_END, the register and record cleared, the gas brought back to standby in two
requests, the idle timer loaded (R40). -/
def State.endRun (s : State) (t : TubeId) : State :=
  let s := ((s.setMode t (.idle none)).raise t .runEnd).rampRelease t
  let s := s.modTube t fun x => { x with step := none, loopOwner := none, loopLeft := 0 }
  let s := s.gasRequest t { zeroLines with l0 := (s.tube t).gas.command.l0 }
  (s.standbyRequest t).loadIdle t

/-- The rest of a completion: notify, then the end of the run for END, or the loop and the link (R17, R39, R40).  A copy whose
completion fields fail is completed by nothing: its load has failed, and R33 refuses its SKIP. -/
def State.finishStep (s : State) (t : TubeId) (held : Option HoldReason) : State :=
  match (s.tube t).mode.isRun, (s.tube t).step with
  | true, some st =>
    if !s.mayLink t st then s
    else
      let s := if recNotify st.record = 1 then s.raise t .stepDone else s
      if recAction st.record = some .endRun then s.endRun t
      else
        let onward := if recNextMark st.record = 1 then recNext st.record else st.index + 1
        if recLoopMark st.record = 1 then
          let x := s.tube t
          let l := loopStep x.loopOwner x.loopLeft st.index (recPasses st.record)
          (s.takeLoop t st).load t (if l.2.2 then recLoopTo st.record else onward) held
        else s.load t onward held
  | _, _ => s

/-! ### Marks -/

/-- The waiters of a list that take a set mark, in list order: every RUNNING waiter that does not consume, and the
oldest RUNNING one that does (R47).  `free` says that no consuming waiter has taken it yet. -/
def State.takers (s : State) : Bool → List Waiter → List Waiter
  | _, [] => []
  | free, w :: rest =>
    if s.runningIn w.tube .execute then
      if !w.consume then w :: s.takers free rest
      else if free then w :: s.takers false rest
      else s.takers free rest
    else s.takers free rest

/-- Activity put to the tubes that it can act on: IDLE with a running timer, or IDLE_PURGE. -/
def State.activeTube (s : State) (t : TubeId) : Bool :=
  match (s.tube t).mode with
  | .idle (some _) => true
  | .idlePurge => true
  | _ => false

/-- A mark is set: its takers leave the list and complete one after another, a consuming taker clears the mark, and
MARK_SET activity reaches every tube (R47, R151). -/
def State.setMarkBy (s : State) (m : MarkId) (t : TubeId) : State :=
  let k := s.mark m
  let took := s.takers true k.waiters
  let consumed := took.any Waiter.consume
  let s := s.setMark m
    { set := !consumed, setter := if consumed then none else some t,
      waiters := k.waiters.filter fun w => !took.contains w }
  let s := s.push (took.map fun w => .complete w.tube none)
  (s.push ((s.someTubes s.activeTube).map fun u => .activity u Activity.markSet.bit)).drewTubes s.activeTube

/-! ### Proven edges (R138, R140) -/

/-- PROOF_RISE or PROOF_FALL for a tube, by the proof's matching enable (R138). -/
def State.raiseEdge (p : ProofId) (rising : Bool) (s : State) (t : TubeId) : State :=
  if rising then (if (s.proof p).riseEnable then s.raise t .proofRise else s)
  else (if (s.proof p).fallEnable then s.raise t .proofFall else s)

/-- The activity kinds of an edge of a tube's proof (R151). -/
def edgeActivity : TubeProof → BitVec 4
  | .sealed => Activity.proofChange.bit ||| Activity.sealChange.bit
  | _ => Activity.proofChange.bit

/-- The interlock consequences of an edge of a tube's proof (Table 59). -/
def State.tubeInterlock (s : State) (t : TubeId) (k : TubeProof) (rising : Bool) : State :=
  match k, rising with
  | .exh, false => s.trip .exhLost t
  | .otc, false => (s.powerSequence false false).trip .otcLost t
  | .otc, true => s.powerSequence false false
  | .sealed, false => if (s.tube t).nonInertCommanded then s.trip .sealLost t else s
  | _, _ => s

/-- A proven edge reaches the blocks that use it: event requests, activity, interlocks, PROVE (R138, R140). -/
def State.takeEdge (s : State) (p : ProofId) (rising : Bool) : State :=
  match p with
  | .tube t k =>
    (((State.raiseEdge p rising s t).takeActivity t (edgeActivity k)).tubeInterlock t k rising).push [.judge t]
  | .bank k =>
    let s := (TubeId.all.filter fun t => (s.tube t).mode.inService).foldl (State.raiseEdge p rising) s
    match k, rising with
    | .estop, false => (s.raiseBank .estop).setLatch .estop
    | .estop, true => s
    | .cooling, false => (s.raiseBank .coolingLost).powerSequence true true
    | .cooling, true => s.powerInput

/-! ### Running the acts -/

/-- One act. -/
def State.doJob (s : State) (j : Job) : State :=
  match j with
  | .beginStep t => s.beginStep t
  | .judge t => s.judgeProve t
  | .granted t => s.gasGranted t
  | .complete t h => s.completeStep t h
  | .finish t h => s.finishStep t h
  | .markSet m t => s.setMarkBy m t
  | .edge p r => s.takeEdge p r
  | .activity t k => s.takeActivity t k

/-- One act run, the acts that it puts forward going before those that were waiting (R47: each act taken whole). -/
def State.runJob (s : State) (j : Job) (rest : List Job) : State :=
  let s' := ({ s with jobs := [] } : State).doJob j
  ({ s' with jobs := s'.jobs ++ rest } : State).noteWatch s

/-- Acts run one after another until none is left, at most as many as the fuel says (log entry 2). -/
def State.runJobs : Nat → State → State
  | 0, s => s
  | n + 1, s =>
    match s.jobs with
    | [] => s
    | j :: rest => State.runJobs n (s.runJob j rest)

/-- Every act that stands is run. -/
def State.settle (s : State) : State := s.runJobs Config.jobFuel

/-- One step of the part: an operation, the note-pending flags, and the acts that follow on it. -/
def State.act (s : State) (f : State → State) : State := ((f s).noteWatch s).settle

end Sys2Proof.Machine
end

