-- ==== Sys2Proof/Machine/Link.lean ====
section
/-!
DEFINITION. The Field Link Master (chapter 9): polls falling due, the arbiter, Set messages, good replies and misses, and
what a node's reading or mark hands to the blocks that use it.
-/

namespace Sys2Proof.Machine

open Sys2Proof

/-! ### Nodes -/

/-- A node's status (Table 63). -/
def State.nodeStatus (s : State) : NodeId → NodeStatus
  | .zone t z => ((s.link.zones.get t).get z).status
  | .flow t => (s.link.flows.get t).status
  | .loader t => (s.link.loaders.get t).status
  | .bank => s.link.bank.status

/-- The link's state updated. -/
def State.modLink (s : State) (f : FieldLink → FieldLink) : State := { s with link := f s.link }

/-- A zone unit's node replaced. -/
def State.setZone (s : State) (t : TubeId) (z : ZoneId) (n : Node ZoneReading) : State :=
  s.modLink fun l => { l with zones := l.zones.set t ((l.zones.get t).set z n) }

/-- A flow unit's node replaced. -/
def State.setFlow (s : State) (t : TubeId) (n : Node (PerLine Nat)) : State :=
  s.modLink fun l => { l with flows := l.flows.set t n }

/-- A loader drive's node replaced. -/
def State.setLoader (s : State) (t : TubeId) (n : Node LoaderReading) : State :=
  s.modLink fun l => { l with loaders := l.loaders.set t n }

/-- The bank node replaced. -/
def State.setBankNode (s : State) (n : Node BankReading) : State := s.modLink fun l => { l with bank := n }

/-- A node's status replaced. -/
def State.setStatus (s : State) (n : NodeId) (st : NodeStatus) : State :=
  match n with
  | .zone t z => s.setZone t z { (s.link.zones.get t).get z with status := st }
  | .flow t => s.setFlow t { s.link.flows.get t with status := st }
  | .loader t => s.setLoader t { s.link.loaders.get t with status := st }
  | .bank => s.setBankNode { s.link.bank with status := st }

/-- The exchange in progress replaced. -/
def State.setExchange (s : State) (e : Option Exchange) : State := s.modLink fun l => { l with exchange := e }

/-! ### The arbiter (R144, R145, R149) -/

/-- The twelve zone units, lowest address first. -/
def zoneNodes : List NodeId := TubeId.all.flatMap fun t => ZoneId.all.map (NodeId.zone t)

/-- The flow units and the bank node, lowest address first. -/
def slowNodes : List NodeId := TubeId.all.map NodeId.flow ++ [.bank]

/-- The loader drives, lowest address first. -/
def loaderNodes : List NodeId := TubeId.all.map NodeId.loader

/-- Every node, lowest address first. -/
def allNodes : List NodeId := zoneNodes ++ TubeId.all.map NodeId.flow ++ loaderNodes ++ [.bank]

/-- The exchange that the arbiter takes next, and whether it is a safe one (R144). -/
def State.nextExchange (s : State) : Option (NodeId × Bool) :=
  match allNodes.find? fun n => (s.nodeStatus n).safeDue with
  | some n => some (n, true)
  | none =>
    ((loaderNodes ++ slowNodes ++ zoneNodes).find? fun n => (s.nodeStatus n).pollDue).map fun n => (n, false)

/-- The Set message of an exchange, from the state as it stands (R145), or with safe contents (R149). -/
def State.setMessage (s : State) (n : NodeId) (safe : Bool) : SetMessage :=
  match n with
  | .zone t z => .zone ((s.tube t).zoneSetpoint z) (if safe then 0 else (s.power.ceiling.get t).get z)
  | .flow t => .flow (if safe then zeroLines else (s.tube t).sentFlows)
  | .loader t => .loader (s.tube t).position (!safe && (s.tube t).loaderEnable)
  | .bank => .bank

/-- The link, when free, takes the next due exchange and clears its due mark (R144). -/
def State.takeExchange (s : State) : State :=
  match s.link.exchange, s.nextExchange with
  | none, some (n, safe) =>
    let st := s.nodeStatus n
    (s.setStatus n (if safe then { st with safeDue := false } else { st with pollDue := false })).setExchange
      (some { node := n, safe := safe, message := s.setMessage n safe })
  | _, _ => s

/-! ### Stale nodes and misses (R147, R148) -/

/-- What a change of a node's mark to STALE hands to the blocks that use it (R148, Table 65). -/
def State.nodeFellStale (s : State) (n : NodeId) : State :=
  match n with
  | .zone t .loadEnd => s.push [.judge t]
  | .zone _ _ => s
  | .flow t => s.derive (.tube t .flow)
  | .loader t =>
    let s := if (s.tube t).mode.inService then s.positionTake t else s
    let moving := s.runningIn t .execute && ((s.tube t).action == some .push || (s.tube t).action == some .pull)
    (if moving then s.stepFault t .pushStall else s).derive (.tube t .sealed)
  | .bank => s.deriveAll bankNodeProofs

/-- A miss of a node: its count rises, up to 3, where the node is STALE by MISSED (R147). -/
def State.miss (s : State) (n : NodeId) : State :=
  let st := s.nodeStatus n
  let m := min (st.misses + 1) Config.staleMisses
  if m < Config.staleMisses then s.setStatus n { st with misses := m }
  else
    let s' := s.setStatus n { st with misses := m, fresh := false, cause := .missed }
    if st.fresh then s'.nodeFellStale n else s'

/-- A node's poll period elapses: its poll is due, or the overdue poll counts as a miss (R144). -/
def State.pollPeriod (s : State) (n : NodeId) : State :=
  let st := s.nodeStatus n
  if st.pollDue then s.miss n else s.setStatus n { st with pollDue := true }

/-! ### Good replies (R146, R147) -/

/-- A two-valued field of a reply, none where it names neither choice (R146). -/
def flagValue? : WireFlag → Option Bool
  | .yes => some true
  | .no => some false
  | .invalid => none

/-- Four flags of a reply, none where one of them names neither choice. -/
def flags? (x : PerTube WireFlag) : Option (PerTube Bool) :=
  match flagValue? x.t0, flagValue? x.t1, flagValue? x.t2, flagValue? x.t3 with
  | some a, some b, some c, some d => some ⟨a, b, c, d⟩
  | _, _, _, _ => none

/-- A bank node's reply, its numbers clamped (Table 64), none where a contact names neither choice. -/
def bankReading? (exhaust : PerTube Nat) (cooling : Nat) (exh sw ot : PerTube WireFlag) (cool estop : WireFlag) :
    Option BankReading :=
  match flags? exh, flags? sw, flags? ot, flagValue? cool, flagValue? estop with
  | some e, some w, some o, some c, some p =>
    some { exhaust := PerTube.of fun t => min (exhaust.get t) 5000, cooling := min cooling 10000, exhContact := e,
           sealSwitch := w, otContact := o, coolingContact := c, estopChain := p }
  | _, _, _, _, _ => none

/-- A status after a good reply: FRESH with no miss (R147).  DESIGN CHOICE: the stale cause stays the last one (log entry
36). -/
def NodeStatus.answered (st : NodeStatus) : NodeStatus := { st with fresh := true, misses := 0 }

/-- A good reply of a zone unit whose status is OK (R146, R147). -/
def State.zoneReply (s : State) (t : TubeId) (z : ZoneId) (temperature : Nat) : State :=
  let n := (s.link.zones.get t).get z
  let s := s.setZone t z { reading := some { temperature := min temperature 15000, status := .ok }, status := n.status.answered }
  if z = .loadEnd then s.push [.judge t] else s

/-- A good reply of a zone unit that reports SENSOR_OPEN: the latest reading, where there is one, keeps its temperature and
takes the status (R146, log entry 29). -/
def State.sensorOpenReply (s : State) (t : TubeId) (z : ZoneId) : State :=
  let n := (s.link.zones.get t).get z
  let s' := s.setZone t z { reading := n.reading.map fun r => { r with status := .sensorOpen }
                            status := { n.status with fresh := false, cause := .sensorOpen, misses := 0 } }
  if n.status.fresh then s'.nodeFellStale (.zone t z) else s'

/-- A good reply of a flow unit (R136, R147). -/
def State.flowReply (s : State) (t : TubeId) (measured : PerLine Nat) : State :=
  let n := s.link.flows.get t
  (s.setFlow t { reading := some (PerLine.of fun l => min (measured.get l) 60000), status := n.status.answered }).derive
    (.tube t .flow)

/-- A good reply of a loader drive; the drive's first reading is taken by a tube in service whose settle time has run
out (R118, R128, R147). -/
def State.loaderReply (s : State) (t : TubeId) (actual : Nat) (ready : Bool) : State :=
  let n := s.link.loaders.get t
  let m := (s.tube t).mode
  let s := s.setLoader t { reading := some { actual := min actual 30000, ready := ready }, status := n.status.answered }
  let s := if n.reading.isNone && m.inService && !m.isSettling then s.positionTake t else s
  s.derive (.tube t .sealed)

/-- A good reply of the bank node (R132 to R134, R147). -/
def State.bankReply (s : State) (r : BankReading) : State :=
  (s.setBankNode { reading := some r, status := s.link.bank.status.answered }).deriveAll bankNodeProofs

/-- A reply of the polled node judged: a good reply, SENSOR_OPEN, or a bad one, which is a miss (R146, R147). -/
def State.reply (s : State) (n : NodeId) (r : WireReading) : State :=
  match n, r with
  | .zone t z, .zone temperature .ok => s.zoneReply t z temperature
  | .zone t z, .zone _ .sensorOpen => s.sensorOpenReply t z
  | .flow t, .flow measured => s.flowReply t measured
  | .loader t, .loader actual ready =>
    match flagValue? ready with
    | some v => s.loaderReply t actual v
    | none => s.miss n
  | .bank, .bank exhaust cooling exh sw ot cool estop =>
    match bankReading? exhaust cooling exh sw ot cool estop with
    | some v => s.bankReply v
    | none => s.miss n
  | _, _ => s.miss n

/-- A Reading message of node `n` arrives: within the reply timeout it ends the exchange in progress, as a miss where
another node was polled (R146, R147).  DEDUCED: with no exchange in progress no address is polled and the reply timeout
has ended what was, so it is no good reply and ends nothing (log entry 11). -/
def State.takeReply (s : State) (n : NodeId) (r : WireReading) : State :=
  match s.link.exchange with
  | none => s
  | some e => if e.node = n then (s.setExchange none).reply n r else (s.setExchange none).miss e.node

/-- The node's exchange ends without a good reply, a miss (R147).  DEDUCED: where none is in progress, or another node's,
nothing ends (log entry 11). -/
def State.replyLost (s : State) (n : NodeId) : State :=
  match s.link.exchange with
  | none => s
  | some e => if e.node = n then (s.setExchange none).miss n else s

/-- The safe exchange falls due for a tube's five nodes (R149). -/
def State.safeTube (s : State) (t : TubeId) : State :=
  ([.zone t .loadEnd, .zone t .centre, .zone t .sourceEnd, .flow t, .loader t] : List NodeId).foldl
    (fun s n => s.setStatus n { s.nodeStatus n with safeDue := true }) s

end Sys2Proof.Machine
end

