-- ==== Sys2Proof/Machine/Ports.lean ====
section
/-!
DEFINITION. The port engines (chapter 11): reception byte by byte, the receive queue with its CTS output, REJECTs, and
what the transmitter sends when it is free.
-/

namespace Sys2Proof.Machine

open Sys2Proof

/-! ### Reception (R155, R156) -/

/-- A frame abandoned or discarded: REJECT(FRAME) falls due or its count rises, up to 255 (R155). -/
def PortEngine.reject (e : PortEngine) : PortEngine := { e with rejectFrame := min 255 (e.rejectFrame + 1) }

/-- An overrun: REJECT(OVERRUN) falls due with this frame's CODE, or its count rises, up to 255 (R156). -/
def PortEngine.overrun (e : PortEngine) (code : Byte) : PortEngine :=
  { e with rejectOverrun := match e.rejectOverrun with
      | none => some (code, 1)
      | some (c, n) => some (c, min 255 (n + 1)) }

/-- A complete frame joins the receive queue, CTS dropping when it comes to hold 3, or is an overrun (R156). -/
def PortEngine.join (e : PortEngine) (f : Frame) : PortEngine :=
  if e.queue.length < Config.queueFrames then
    { e with queue := e.queue ++ [f], cts := e.cts && e.queue.length + 1 != 3 }
  else e.overrun f.code

/-- LEN, CODE, payload and CHECK sum to 0 mod 256 (R155). -/
def checksOut (bytes : List Byte) : Bool := bytes.foldl (· + ·) 0 == 0

/-- The frame that the bytes after SYNC spell. -/
def frameOf : List Byte → Frame
  | len :: code :: rest => { code := code, payload := rest.take len.toNat }
  | _ => { code := 0, payload := [] }

/-- The bytes after SYNC with one more: the frame is abandoned at a LEN above 250, complete at its CHECK byte, or goes on
(R155). -/
def PortEngine.frameByte (e : PortEngine) (bytes : List Byte) : PortEngine :=
  let len := recByte bytes 0
  if Config.maxLen < len then { e with rx := none }.reject
  else if bytes.length = len + 3 then
    if checksOut bytes then { e with rx := none }.join (frameOf bytes) else { e with rx := none }.reject
  else { e with rx := some bytes }

/-- One byte received (R155). -/
def PortEngine.byte (e : PortEngine) (b : Byte) : PortEngine :=
  match e.rx with
  | none => if b = Config.syncByte then { e with rx := some [] } else e
  | some bytes => e.frameByte (bytes ++ [b])

/-- More than 5 ms pass between two bytes: a frame being received is abandoned (R155). -/
def PortEngine.gap (e : PortEngine) : PortEngine :=
  match e.rx with
  | none => e
  | some _ => { e with rx := none }.reject

/-! ### Transmission (R164) -/

/-- A reply is outstanding: made and not yet sent, or being sent (R157). -/
def PortEngine.replyOutstanding (e : PortEngine) : Bool :=
  !e.replies.isEmpty || (e.sending.map Frame.isReply).getD false

/-- REJECT(FRAME) with its count (Table 71). -/
def rejectFrameFrame (n : Nat) : Frame := { code := 0x82, payload := [1, 0, BitVec.ofNat 8 n] }

/-- REJECT(OVERRUN) with its CODE and count (Table 71). -/
def rejectOverrunFrame (code : Byte) (n : Nat) : Frame := { code := 0x82, payload := [2, code, BitVec.ofNat 8 n] }

/-- A transmitter whose last frame is sent takes the first item due, the note being `note` (R164). -/
def PortEngine.send (e : PortEngine) (note : Frame) : PortEngine :=
  match e.replies with
  | r :: rest => { e with sending := some r, replies := rest }
  | [] =>
    if 0 < e.rejectFrame then { e with sending := some (rejectFrameFrame e.rejectFrame), rejectFrame := 0 }
    else if e.notePending && e.rx.isNone then { e with sending := some note, notePending := false }
    else
      match e.rejectOverrun, e.queue with
      | some (c, n), [] => { e with sending := some (rejectOverrunFrame c n), rejectOverrun := none }
      | _, _ => { e with sending := none }

/-- The port's transmitter is free (R164). -/
def State.transmit (s : State) (p : Port) : State := s.modPort p fun e => e.send (s.note p)

/-- The engine may take its oldest frame: no reply is outstanding, and nothing of items 1 to 3 of R164 is due (R157). -/
def PortEngine.mayTake (e : PortEngine) : Bool :=
  !e.replyOutstanding && e.rejectFrame == 0 && !(e.notePending && e.rx.isNone)

/-- The queue without its oldest frame; CTS is raised when it becomes empty (R156). -/
def PortEngine.take (e : PortEngine) (rest : List Frame) : PortEngine :=
  { e with queue := rest, cts := e.cts || rest.isEmpty }

/-- A reply made. -/
def State.addReply (s : State) (p : Port) (f : Frame) : State :=
  s.modPort p fun e => { e with replies := e.replies ++ [f] }

/-- A port engine after a reset of the bank: the frame being received, the queue and the rejects are gone, CTS is raised
and a note is pending; a command taken before keeps its reply (R165). -/
def PortEngine.bankReset (e : PortEngine) : PortEngine :=
  { rx := none, queue := [], cts := true, replies := e.replies, sending := e.sending, rejectFrame := 0,
    rejectOverrun := none, notePending := true }

end Sys2Proof.Machine
end

