-- ==== Sys2Proof/Machine/Reset.lean ====
section
/-!
DEFINITION. Power-on and the bank reset (R5, R23, R86, R101, R130, R149, R165 and the reset columns of the chapters'
tables), and the passage of one tube out of service (R27).
-/

namespace Sys2Proof.Machine

open Sys2Proof

/-- A proof's count starts again from 0 over its raw value derived anew; its proven value is kept (R130, log entry
13). -/
def State.rejudge (s : State) (p : ProofId) : State :=
  s.setProof p { s.proof p with raw := s.rawNow p, count := 0 }

/-- A tube after a bank reset: out of service with nothing in progress; its settings, proofs and P are kept (Tables 17,
29, 36, 51, 56, 67). -/
def Tube.bankReset (x : Tube) : Tube :=
  { x with
    mode := .outOfService, step := none, loopOwner := none, loopLeft := 0, events := 0, lastFault := none,
    setpoint := 0, offsets := ⟨0, 0, 0⟩, idleAcc := 0, taken := false, gas := TubeGas.zero, flowSettle := 0 }

/-- The Power Allocator after a bank reset: every tube out of service, so no commitment, k 1000 and every ceiling 0
(R101). -/
def PowerAllocator.bankReset (p : PowerAllocator) : PowerAllocator :=
  { p with
    requests := [], grants := [], pointer := .t3, throttle := 1000,
    ceiling := PerTube.of fun _ => PerZone.of fun _ => 0 }

/-- The Field Link Master after a bank reset; an exchange once begun is not given up (Table 63, R144, R149). -/
def FieldLink.bankReset (l : FieldLink) : FieldLink := { FieldLink.powerOn with exchange := l.exchange }

/-- The bank reset, from the RESET pin or from BANK_RESET (R23, R165). -/
def State.bankReset (s : State) : State :=
  let s : State := { s with
    tubes := PerTube.of fun t => (s.tubes.get t).bankReset
    marks := PerMark.of fun _ => Mark.clear
    gas := { s.gas with queue := [] }
    power := s.power.bankReset
    monitor := { s.monitor with latch := true, hold := false }
    link := s.link.bankReset
    ports := { station := PerTube.of fun t => (s.ports.station.get t).bankReset, facility := s.ports.facility.bankReset }
    bankError := none
    bankEvents := 0
    jobs := [] }
  allProofs.foldl State.rejudge s

/-- Power-on: every field at its power-on value.  The commands that wait for the block are not the block's own, and stay; so does
the counter of free values, so that no order drawn after a power-on is that of an earlier one (log entries 1 and 19). -/
def State.powerOn (s : State) : State := { State.reset with pending := s.pending, free := s.free }

/-- A tube leaves service (R27, R116, Tables 17, 29, 67).  DESIGN CHOICE: its entry's withdrawal and its release are one change
with one gas pass (log entry 26), and a sent flow that it changes starts the flow settle hold afresh (log entry 28). -/
def State.leaveService (s : State) (t : TubeId) : State :=
  let s := s.modTube t fun x => { x with
    mode := .outOfService, step := none, loopOwner := none, loopLeft := 0, events := 0, taken := false,
    idleAcc := 0 }
  (((s.releaseGas t).gasPass).powerInput).safeTube t

end Sys2Proof.Machine
end

