-- ==== Sys2Proof/Machine/Ticks.lean ====
section
/-!
DEFINITION. What a tube's 1 s ramp tick and 100 ms motion tick do (R23, R26, R35, R37, R49, R56 to R62, R65, R67, R79,
R80, R121 to R125, R150), as mechanisms that each count or work and may end the step, and the waits for one counter's
end that the table lists as rows of their own.
-/

namespace Sys2Proof.Machine

open Sys2Proof

/-- How a mechanism ends the step on a tick. -/
inductive TickEnd where
  | complete
  | fault (kind : Kind)
deriving DecidableEq, Repr

/-- What a mechanism's end does to the step (R39, R42).  DESIGN CHOICE: the state that it brings the tube to takes its first
tick with the next one (log entry 38). -/
def State.endBy (s : State) (t : TubeId) : TickEnd → State
  | .complete => s.completeStep t none
  | .fault k => s.stepFault t k

/-! ### Counters of every action -/

/-- The flow loss monitor: the time after this tick, and whether it is past its setting (R80). -/
def State.gasMechanism (s : State) (t : TubeId) (st : ActiveStep) : State × Option TickEnd :=
  let x := s.tube t
  let n := if !x.flowProof.proven && x.anyCommanded then st.flowLoss + 1 else 0
  (s.setStep t (some { st with flowLoss := n }),
    if s.bank.flowLossTime < n then some (.fault .gasLost) else none)

/-- The zone stale monitor: the time after this tick, and whether it is past its limit (R62). -/
def State.zoneMechanism (s : State) (t : TubeId) (st : ActiveStep) : State × Option TickEnd :=
  let n := if s.anyZoneStale t then st.zoneStale + 1 else 0
  (s.setStep t (some { st with zoneStale := n }),
    if s.bank.zoneStaleLimit < n then some (.fault .zoneStale) else none)

/-! ### RAMP and SOAK -/

/-- Some fresh zone reading differs from its zone setpoint by more than the band; not judged for band 0 (R60). -/
def State.outOfBand (s : State) (t : TubeId) (st : ActiveStep) : Bool :=
  decide (0 < recBand st.record) && ZoneId.all.any fun z =>
    match s.freshZone t z with
    | none => false
    | some v => decide (recBand st.record < distance v ((s.tube t).zoneSetpoint z))

/-- The band hold time after a tick of a RAMP or SOAK (R61). -/
def State.bandCount (s : State) (t : TubeId) (st : ActiveStep) : Nat :=
  if recBand st.record = 0 then st.bandHold
  else if s.outOfBand t st then min (st.bandHold + 1) Config.bandHoldCap
  else if s.anyZoneStale t then st.bandHold
  else 0

/-- The count of a band hold is past a band limit that bounds it (R61). -/
def State.bandExpired (s : State) (t : TubeId) (st : ActiveStep) : Bool :=
  let limit := (s.tube t).settings.bandLimit
  s.outOfBand t st && decide (0 < limit) && decide (limit < s.bandCount t st)

/-- A RAMP advances on the tick (R58); a SOAK counts it (R65).  The missing grant holds an upward RAMP only. -/
def State.advancing (s : State) (t : TubeId) (st : ActiveStep) : Bool :=
  !(st.rampDir == some .up && !s.hasRampGrant t) && !s.outOfBand t st && !s.anyZoneStale t

/-- The hold flag as a tick leaves it, RAMP_HELD being raised where it becomes set (R59), with the band hold time of
R61. -/
def State.holdWatch (s : State) (t : TubeId) (st : ActiveStep) : State :=
  let ok := s.advancing t st
  let s' := s.setStep t (some { st with holdFlag := !ok, bandHold := s.bandCount t st })
  if !ok && !st.holdFlag then s'.raise t .rampHeld else s'

/-- The move of an advancing RAMP tick: the setpoint and accumulator after it, and whether the target is reached (R56,
R57). -/
def rampMove (dir : Direction) (setpoint acc rate target : Nat) : Nat × Nat × Bool :=
  let inc := (acc + rate) / 60
  match dir with
  | .up =>
    if target ≤ setpoint + inc then (target, 0, true) else (setpoint + inc, (acc + rate) % 60, false)
  | .down =>
    if setpoint ≤ target + inc then (target, 0, true) else (setpoint - inc, (acc + rate) % 60, false)

/-- A RAMP's setpoint and accumulator replaced. -/
def State.setRamp (s : State) (t : TubeId) (setpoint acc : Nat) : State :=
  s.modTube t fun x => { x with
    setpoint := setpoint
    step := x.step.map fun st => { st with rampAcc := acc } }

/-- The RAMP's work on a tick (R56 to R61). -/
def State.rampWork (s : State) (t : TubeId) (st : ActiveStep) : State × Option TickEnd :=
  let s' := s.holdWatch t st
  if s.bandExpired t st then (s', some (.fault .bandTimeout))
  else
    match s.advancing t st, st.rampDir with
    | true, some d =>
      let r := rampMove d (s.tube t).setpoint st.rampAcc (recRate st.record) (10 * recTarget st.record)
      (s'.setRamp t r.1 r.2.1, if r.2.2 then some .complete else none)
    | _, _ => (s', none)

/-- The SOAK's work on a tick (R59 to R61, R65). -/
def State.soakWork (s : State) (t : TubeId) (st : ActiveStep) : State × Option TickEnd :=
  let s' := s.holdWatch t st
  if s.bandExpired t st then (s', some (.fault .bandTimeout))
  else if s.advancing t st then
    (s'.modTube t fun x => { x with step := x.step.map fun u => { u with soakCount := st.soakCount + 1 } },
      if st.soakCount + 1 = recDuration st.record then some .complete else none)
  else (s', none)

/-! ### PURGE -/

/-- The length of the phase in progress (R79). -/
def ActiveStep.phaseLength (st : ActiveStep) : Nat :=
  match st.purgePhase with
  | .high => recOnTime st.record
  | .low => recOffTime st.record

/-- A PURGE phase begins: phase time 0 and line 0's command at the phase's flow (R79). -/
def State.startPhase (s : State) (t : TubeId) (st : ActiveStep) (ph : PurgePhase) (pulse : Nat) : State :=
  let g := (s.tube t).gas
  let flow := match ph with
    | .high => st.purgeHigh
    | .low => st.purgeLow
  (s.setStep t (some { st with purgePhase := ph, phaseTime := 0, pulse := pulse })).setGas t
    { g with command := g.command.set .l0 flow }

/-- The PURGE's work on a tick (R79). -/
def State.purgeWork (s : State) (t : TubeId) (st : ActiveStep) : State × Option TickEnd :=
  if (s.tube t).flowProof.proven then
    if st.phaseTime + 1 = st.phaseLength then
      if st.purgePhase = .high ∧ 0 < recOffTime st.record then (s.startPhase t st .low st.pulse, none)
      else if st.pulse = recPulses st.record then
        (s.setStep t (some { st with phaseTime := st.phaseTime + 1 }), some .complete)
      else (s.startPhase t st .high (st.pulse + 1), none)
    else (s.setStep t (some { st with phaseTime := st.phaseTime + 1 }), none)
  else (s, none)

/-! ### SYNC -/

/-- The tube is RUNNING on the waiter list of the mark that its step names (R49). -/
def State.syncWaiting (s : State) (t : TubeId) (st : ActiveStep) : Bool :=
  match st.markWait with
  | none => false
  | some m => s.waitsOn t m

/-- The SYNC's wait on a tick (R49). -/
def State.syncWork (s : State) (t : TubeId) (st : ActiveStep) : State × Option TickEnd :=
  if s.syncWaiting t st then
    let limit := recWaitLimit st.record
    (s.setStep t (some { st with syncWait := st.syncWait + 1 }),
      if 0 < limit ∧ limit ≤ st.syncWait + 1 then some (.fault .syncTimeout) else none)
  else (s, none)

/-! ### The ramp tick -/

/-- The action's work on a ramp tick; PUSH, PULL and END have none (R38). -/
def State.actionMechanism (s : State) (t : TubeId) (st : ActiveStep) : State × Option TickEnd :=
  match recAction st.record with
  | some .ramp => s.rampWork t st
  | some .soak => s.soakWork t st
  | some .purge => s.purgeWork t st
  | some .sync => s.syncWork t st
  | _ => (s, none)

/-- The mechanisms that a ramp tick runs in EXECUTE. -/
inductive Mechanism where
  | gas | zone | work
deriving DecidableEq, Repr

/-- One mechanism on the step as it stands. -/
def State.mechanism (s : State) (t : TubeId) (m : Mechanism) : State × Option TickEnd :=
  match (s.tube t).step with
  | none => (s, none)
  | some st =>
    match m with
    | .gas => s.gasMechanism t st
    | .zone => s.zoneMechanism t st
    | .work => s.actionMechanism t st

/-- Mechanisms taken one after another; the first that ends the step acts, and the rest find it ended (R42). -/
def State.runMechanisms (t : TubeId) : List Mechanism → State → State
  | [], s => s
  | m :: ms, s =>
    match s.mechanism t m with
    | (s', none) => State.runMechanisms t ms s'
    | (s', some e) => s'.endBy t e

/-- The monitors that every action shares end the step on this tick. -/
def State.monitorEnds (s : State) (t : TubeId) : Bool :=
  (s.mechanism t .gas).2.isSome || (s.mechanism t .zone).2.isSome

/-- Some mechanism ends the step on this tick. -/
def State.tickEnds (s : State) (t : TubeId) : Bool := s.monitorEnds t || (s.mechanism t .work).2.isSome

/-- The three mechanisms with one of them first. -/
def Mechanism.before : Mechanism → List Mechanism
  | .gas => [.gas, .zone, .work]
  | .zone => [.zone, .gas, .work]
  | .work => [.work, .gas, .zone]

/-- A ramp tick in EXECUTE.  Where a mechanism ends the step, the order of the mechanisms is free, so that the others may or
may not have counted the tick, unless `first` says which is taken first (R42, log entries 1 and 7).  DESIGN CHOICE: where
none ends it the flow loss time is counted before the action's work, so a purge phase change that turns FLOW false at once
(flow settle time 0, FLOW debounce 0) does not count this tick as lost (R79, R80, log entry 7). -/
def State.executeTick (s : State) (t : TubeId) (first : Option Mechanism) : State :=
  match first with
  | some m => State.runMechanisms t m.before s
  | none =>
    if s.tickEnds t then
      State.runMechanisms t (freeOrder s.free Mechanism.gas.before) (s.drawn Mechanism.gas.before)
    else State.runMechanisms t Mechanism.gas.before s

/-- A ramp tick in PROVE: the proof time, and PROOF_TIMEOUT when it reaches its setting (R37). -/
def State.proveTick (s : State) (t : TubeId) (st : ActiveStep) : State :=
  let s' := s.setStep t (some { st with proofTime := st.proofTime + 1 })
  if s.bank.proofTime ≤ st.proofTime + 1 then s'.stepFault t .proofTimeout else s'

/-- A ramp tick in IDLE: the idle timer, and IDLE_PURGE at its expiry (R150, R152).  DESIGN CHOICE: the tick on which the
timer expires makes no idle move, the idle ramp's first tick being the next one (R67, log entry 38). -/
def State.idleTick (s : State) (t : TubeId) (left : Nat) : State :=
  if left ≤ 1 then s.enterIdlePurge t else s.setMode t (.idle (some (left - 1)))

/-- The idle ramp's move: setpoint and idle accumulator after a tick (R67). -/
def idleMove (setpoint acc rate target : Nat) : Nat × Nat :=
  if setpoint ≤ target then (setpoint, acc)
  else
    let inc := (acc + rate) / 60
    if setpoint ≤ target + inc then (target, 0) else (setpoint - inc, (acc + rate) % 60)

/-- A ramp tick in IDLE_PURGE (R67). -/
def State.idleRampTick (s : State) (t : TubeId) : State :=
  s.modTube t fun x =>
    let r := idleMove x.setpoint x.idleAcc x.settings.idleRate (10 * x.settings.idleTemperature)
    { x with setpoint := r.1, idleAcc := r.2 }

/-- The end of ABORTING: the emergency grant released with its pass, IDLE with its record cleared, RUN_END, the standby
request, the idle timer (R35, R85, R97). -/
def State.endAborting (s : State) (t : TubeId) : State :=
  let s := (s.releaseGas t).gasPass
  let s := s.modTube t fun x => { x with
    mode := .idle none, step := none, loopOwner := none, loopLeft := 0 }
  ((s.raise t .runEnd).standbyRequest t).loadIdle t

/-- A ramp tick in ABORTING (R35, R84, R85).  DESIGN CHOICE: the tick that ends the purge takes nothing off the idle timer
then loaded (R150, log entry 38). -/
def State.abortingTick (s : State) (t : TubeId) (left : Nat) : State :=
  if left ≤ 1 then s.endAborting t else s.setMode t (.aborting (left - 1))

/-- One ramp tick of a tube (R23, R56). -/
def State.rampTick (s : State) (t : TubeId) (first : Option Mechanism) : State :=
  match (s.tube t).mode, (s.tube t).step with
  | .idle (some left), _ => s.idleTick t left
  | .idlePurge, _ => s.idleRampTick t
  | .aborting left, _ => s.abortingTick t left
  | .running .prove, some st => s.proveTick t st
  | .running .execute, some _ => s.executeTick t first
  | _, _ => s

/-! ### The motion tick -/

/-- Settle-time expiry: IDLE, IN_SERVICE, the standby request, the idle timer, the position take, and the Power
Allocator's input (R26, R112, R118). -/
def State.settleExpiry (s : State) (t : TubeId) : State :=
  let s := (((s.setMode t (.idle none)).raise t .inService).standbyRequest t).loadIdle t
  (s.positionTake t).powerInput

/-- A motion tick in SETTLING (R25, R26). -/
def State.settlingTick (s : State) (t : TubeId) (left : Nat) : State :=
  if left ≤ 1 then s.settleExpiry t else s.setMode t (.settling (left - 1))

/-- The move of an advancing motion tick: position, accumulator and whether the target is reached (R121). -/
def motionMove (a : Action) (position acc speed target : Nat) : Nat × Nat × Bool :=
  let inc := (acc + speed) / 60
  if a = .pull then
    if position ≤ target + inc then (target, 0, true) else (position - inc, (acc + speed) % 60, false)
  else
    if target ≤ position + inc then (target, 0, true) else (position + inc, (acc + speed) % 60, false)

/-- The advance of a motion tick, when the motion is advancing: at-target mark no, the reading fresh and the drive ready
(R121, R122). -/
def State.advanceMotion (s : State) (t : TubeId) (a : Action) (st : ActiveStep) (r : LoaderReading) : State :=
  if st.atTarget || !r.ready then s
  else
    let m := motionMove a (s.tube t).position st.motionAcc st.speed (recTarget st.record)
    let inner := atSlowPoint a st.record m.1 && st.speed == recOuterSpeed st.record
    s.modTube t fun x => { x with
      position := m.1
      step := some { st with
        motionAcc := m.2.1
        atTarget := m.2.2
        speed := if inner then recInnerSpeed st.record else st.speed } }

/-- The actual position is within the in-position band of the target (R123). -/
def State.inPosition (s : State) (st : ActiveStep) (r : LoaderReading) : Bool :=
  decide (distance r.actual (recTarget st.record) ≤ s.bank.inPositionBand)

/-- Arrival as a tick judges it: nothing while the at-target mark is no (R123). -/
def State.arrival (s : State) (t : TubeId) (st : ActiveStep) (r : LoaderReading) : State × Option TickEnd :=
  if !st.atTarget then (s, none)
  else if s.inPosition st r then (s, some .complete)
  else
    (s.setStep t (some { st with settleCount := st.settleCount + 1 }),
      if 10 * s.bank.settleTime ≤ st.settleCount + 1 then some (.fault .pushStall) else none)

/-- The boat does not follow: the drive is not ready, or P and the actual position differ by more than the follow limit
(R124). -/
def State.behind (s : State) (t : TubeId) (r : LoaderReading) : Bool :=
  !r.ready || decide (s.bank.followLimit < distance (s.tube t).position r.actual)

/-- The follow watch of a tick (R124). -/
def State.follow (s : State) (t : TubeId) (st : ActiveStep) (r : LoaderReading) : State × Option TickEnd :=
  let n := if s.behind t r then st.followCount + 1 else 0
  (s.setStep t (some { st with followCount := n }),
    if s.behind t r = true ∧ s.bank.stallTime ≤ n then some (.fault .pushStall) else none)

/-- The judgements that a motion tick makes after its move. -/
inductive MotionCheck where
  | arrival | follow
deriving DecidableEq, Repr

/-- One judgement on the step as it stands. -/
def State.motionCheck (s : State) (t : TubeId) (r : LoaderReading) (c : MotionCheck) : State × Option TickEnd :=
  match (s.tube t).step with
  | none => (s, none)
  | some st =>
    match c with
    | .arrival => s.arrival t st r
    | .follow => s.follow t st r

/-- Judgements taken one after another; the first that ends the step acts (R124). -/
def State.runMotionChecks (t : TubeId) (r : LoaderReading) : List MotionCheck → State → State
  | [], s => s
  | c :: cs, s =>
    match s.motionCheck t r c with
    | (s', none) => State.runMotionChecks t r cs s'
    | (s', some e) => s'.endBy t e

/-- The judgements of a motion tick: where one of them ends the step their order is free, so that the other may or may not have
counted the tick, unless `first` says which is taken first (R123, R124, log entries 1 and 7). -/
def State.judgeMotion (s : State) (t : TubeId) (r : LoaderReading) (first : Option MotionCheck) : State :=
  let both : List MotionCheck := [.arrival, .follow]
  match first with
  | some .follow => State.runMotionChecks t r [.follow, .arrival] s
  | some .arrival => State.runMotionChecks t r both s
  | none =>
    if (s.motionCheck t r .arrival).2.isSome || (s.motionCheck t r .follow).2.isSome then
      State.runMotionChecks t r (freeOrder s.free both) (s.drawn both)
    else State.runMotionChecks t r both s

/-- A motion tick in EXECUTE of a PUSH or PULL: a stale drive fails the step; otherwise the move, then the judgements
(R121 to R125). -/
def State.motionWork (s : State) (t : TubeId) (a : Action) (st : ActiveStep) (first : Option MotionCheck) : State :=
  match s.freshLoader t with
  | none => s.stepFault t .pushStall
  | some r => (s.advanceMotion t a st r).judgeMotion t r first

/-- One motion tick of a tube (R23, R121). -/
def State.motionTick (s : State) (t : TubeId) (first : Option MotionCheck) : State :=
  match (s.tube t).mode, (s.tube t).step, (s.tube t).action with
  | .settling left, _, _ => s.settlingTick t left
  | .running .execute, some st, some .push => s.motionWork t .push st first
  | .running .execute, some st, some .pull => s.motionWork t .pull st first
  | _, _, _ => s

/-! ### Waits for one counter's end (log entry 6) -/

/-- The end of one counter: ticks pass while it counts, and `fire` is the tick that ends it.  A state in which it does
not count is left as it is. -/
def State.await (counting due : State → Bool) (tick fire : State → State) : Nat → State → State
  | 0, s => s
  | n + 1, s =>
    if counting s then (if due s then s.act fire else State.await counting due tick fire n (s.act tick)) else s

/-- A condition on the active step of a tube RUNNING in a phase. -/
def State.onStep (s : State) (t : TubeId) (ph : Phase) (c : ActiveStep → Bool) : Bool :=
  match (s.tube t).mode == .running ph, (s.tube t).step with
  | true, some st => c st
  | _, _ => false

/-- ABORTING. -/
def Mode.isAborting : Mode → Bool
  | .aborting _ => true
  | _ => false

/-- The time left in SETTLING, the idle timer and the emergency purge time left, as the mode holds them. -/
def Mode.left : Mode → Option Nat
  | .settling n => some n
  | .idle (some n) => some n
  | .aborting n => some n
  | _ => none

end Sys2Proof.Machine
end

