-- ==== Sys2Proof/Machine/Items.lean ====
section
/-!
DEFINITION. The items of Table 76: the settings, each with its code, index, widths, present value and the rule of its
write (R158), and the read-only items with their contents (R159).
-/

namespace Sys2Proof.Machine

open Sys2Proof

/-- A setting of Table 76, with what its index byte names. -/
inductive Setting where
  | capacity (h : Header)
  | reserve
  | emergencyFlow
  | emergencyTime
  | policy
  | budget
  | holdReserve (t : TubeId)
  | rampOrder
  | priorities
  | cmax (t : TubeId) (z : ZoneId)
  | regions
  | proofTime
  | flowLossTime
  | tolerance (min : Bool)
  | flowSettleTime
  | zoneStaleLimit
  | inPositionBand
  | settleTime
  | followLimit
  | stallTime
  | bankSource (k : BankProof)
  | bankDebounce (k : BankProof)
  | bankEnables (k : BankProof)
  | coolingThreshold
  | faultAction (t : TubeId)
  | eventEnables (t : TubeId)
  | line (t : TubeId) (l : LineId)
  | tmax (t : TubeId)
  | stroke (t : TubeId)
  | standbyFlow (t : TubeId)
  | idleFlow (t : TubeId)
  | idleTemperature (t : TubeId)
  | idleRate (t : TubeId)
  | idlePeriod (t : TubeId)
  | activityMask (t : TubeId)
  | wakeMask (t : TubeId)
  | pushBand (t : TubeId)
  | bandLimit (t : TubeId)
  | sealBand (t : TubeId)
  | tubeSource (t : TubeId) (k : TubeProof)
  | tubeDebounce (t : TubeId) (k : TubeProof)
  | tubeEnables (t : TubeId) (k : TubeProof)
  | exhThreshold (t : TubeId) (high : Bool)
deriving DecidableEq, Repr

/-! ### Codes, indices and widths (Table 76) -/

/-- The widths of the components of a setting's value, none for a code that names no setting (Table 76). -/
def itemWidths? (item : Nat) : Option (List Nat) :=
  match item with
  | 0x10 | 0x11 => some [4]
  | 0x12 | 0x13 => some [2]
  | 0x14 => some [1]
  | 0x18 | 0x19 => some [2]
  | 0x1A => some [1]
  | 0x1B => some [1, 1, 1, 1]
  | 0x1C => some [2]
  | 0x20 => some [2, 2, 2]
  | 0x21 | 0x22 | 0x23 | 0x24 | 0x25 | 0x26 | 0x27 | 0x28 | 0x29 => some [2]
  | 0x2A | 0x2B => some [1]
  | 0x2C => some [1, 1]
  | 0x2D => some [2]
  | 0x40 => some [1]
  | 0x41 => some [2]
  | 0x42 => some [1, 2]
  | 0x43 | 0x44 | 0x45 | 0x46 | 0x47 | 0x48 | 0x49 => some [2]
  | 0x4A | 0x4B => some [1]
  | 0x4C | 0x4D | 0x4E => some [2]
  | 0x50 | 0x51 => some [1]
  | 0x52 => some [1, 1]
  | 0x53 => some [2]
  | _ => none

/-- A setting that takes no index: its index byte is 0 (Table 76, log entry 10). -/
def unindexed (index : Nat) (x : Setting) : Option Setting := if index = 0 then some x else none

/-- A bank setting of two values that its index tells apart. -/
def bankPair (index : Nat) (a b : Setting) : Option Setting :=
  if index = 0 then some a else if index = 1 then some b else none

/-- The tube and sub-index of a tube item's index byte (Table 76, note 1). -/
def tubeIndex? (index : Nat) : Option (TubeId × Nat) := (TubeId.ofNat? (index / 16)).map fun t => (t, index % 16)

/-- A tube setting without a sub-index. -/
def tubeItem? (index : Nat) (f : TubeId → Setting) : Option Setting :=
  match tubeIndex? index with
  | some (t, 0) => some (f t)
  | _ => none

/-- A tube setting with a sub-index. -/
def tubeSub? (index : Nat) (f : TubeId → Nat → Option Setting) : Option Setting :=
  (tubeIndex? index).bind fun x => f x.1 x.2

/-- The setting that an item code and an index byte name, none where the code names no setting or the index is out of
its range (R158, Table 76). -/
def settingOf? (item index : Nat) : Option Setting :=
  match item with
  | 0x10 => (Header.ofNat? index).map .capacity
  | 0x11 => unindexed index .reserve
  | 0x12 => unindexed index .emergencyFlow
  | 0x13 => unindexed index .emergencyTime
  | 0x14 => unindexed index .policy
  | 0x18 => unindexed index .budget
  | 0x19 => (TubeId.ofNat? index).map .holdReserve
  | 0x1A => unindexed index .rampOrder
  | 0x1B => unindexed index .priorities
  | 0x1C => (zoneOfIndex? index).map fun x => .cmax x.1 x.2
  | 0x20 => unindexed index .regions
  | 0x21 => unindexed index .proofTime
  | 0x22 => unindexed index .flowLossTime
  | 0x23 => bankPair index (.tolerance false) (.tolerance true)
  | 0x24 => unindexed index .flowSettleTime
  | 0x25 => unindexed index .zoneStaleLimit
  | 0x26 => unindexed index .inPositionBand
  | 0x27 => unindexed index .settleTime
  | 0x28 => unindexed index .followLimit
  | 0x29 => unindexed index .stallTime
  | 0x2A => (BankProof.ofNat? index).map .bankSource
  | 0x2B => (BankProof.ofNat? index).map .bankDebounce
  | 0x2C => (BankProof.ofNat? index).map .bankEnables
  | 0x2D => unindexed index .coolingThreshold
  | 0x40 => tubeItem? index .faultAction
  | 0x41 => tubeItem? index .eventEnables
  | 0x42 => tubeSub? index fun t i => (LineId.ofNat? i).map (.line t)
  | 0x43 => tubeItem? index .tmax
  | 0x44 => tubeItem? index .stroke
  | 0x45 => tubeItem? index .standbyFlow
  | 0x46 => tubeItem? index .idleFlow
  | 0x47 => tubeItem? index .idleTemperature
  | 0x48 => tubeItem? index .idleRate
  | 0x49 => tubeItem? index .idlePeriod
  | 0x4A => tubeItem? index .activityMask
  | 0x4B => tubeItem? index .wakeMask
  | 0x4C => tubeItem? index .pushBand
  | 0x4D => tubeItem? index .bandLimit
  | 0x4E => tubeItem? index .sealBand
  | 0x50 => tubeSub? index fun t i => (TubeProof.ofNat? i).map (.tubeSource t)
  | 0x51 => tubeSub? index fun t i => (TubeProof.ofNat? i).map (.tubeDebounce t)
  | 0x52 => tubeSub? index fun t i => (TubeProof.ofNat? i).map (.tubeEnables t)
  | 0x53 => tubeSub? index fun t i => bankPair i (.exhThreshold t false) (.exhThreshold t true)
  | _ => none

/-- The tube that a tube setting belongs to; none for a bank setting (Table 76). -/
def Setting.owner : Setting → Option TubeId
  | .faultAction t | .eventEnables t | .line t _ | .tmax t | .stroke t | .standbyFlow t | .idleFlow t
  | .idleTemperature t | .idleRate t | .idlePeriod t | .activityMask t | .wakeMask t | .pushBand t | .bandLimit t
  | .sealBand t | .tubeSource t _ | .tubeDebounce t _ | .tubeEnables t _ | .exhThreshold t _ => some t
  | _ => none

/-! ### Present values -/

/-- A bank proof of the Condition Monitor. -/
def State.bankProof (s : State) (k : BankProof) : Proof := s.proof (.bank k)

/-- A setting's present value, component by component (R159). -/
def State.settingValue (s : State) (x : Setting) : List Nat :=
  let tube := fun t => (s.tube t).settings
  match x with
  | .capacity h => [s.gas.capacity.get h]
  | .reserve => [s.gas.reserve]
  | .emergencyFlow => [s.gas.emergencyFlow]
  | .emergencyTime => [s.bank.emergencyTime]
  | .policy => [s.gas.policy.num]
  | .budget => [s.power.budget]
  | .holdReserve t => [s.power.holdReserve.get t]
  | .rampOrder => [s.power.order.num]
  | .priorities => TubeId.all.map s.power.priority.get
  | .cmax t z => [(s.power.cmax.get t).get z]
  | .regions => [s.b0, s.b1, s.b2]
  | .proofTime => [s.bank.proofTime]
  | .flowLossTime => [s.bank.flowLossTime]
  | .tolerance min => [if min then s.monitor.tolMin else s.monitor.tolPct]
  | .flowSettleTime => [s.monitor.flowSettleTime]
  | .zoneStaleLimit => [s.bank.zoneStaleLimit]
  | .inPositionBand => [s.bank.inPositionBand]
  | .settleTime => [s.bank.settleTime]
  | .followLimit => [s.bank.followLimit]
  | .stallTime => [s.bank.stallTime]
  | .bankSource k => [(s.bankProof k).source.num]
  | .bankDebounce k => [(s.bankProof k).debounce]
  | .bankEnables k => [bit (s.bankProof k).riseEnable, bit (s.bankProof k).fallEnable]
  | .coolingThreshold => [s.monitor.coolingThreshold]
  | .faultAction t => [(tube t).faultAction.num]
  | .eventEnables t => [(tube t).enables.toNat]
  | .line t l => [headerCode ((tube t).lines.get l).header, ((tube t).lines.get l).maximum]
  | .tmax t => [(tube t).tmax]
  | .stroke t => [(tube t).stroke]
  | .standbyFlow t => [(tube t).standbyFlow]
  | .idleFlow t => [(tube t).idleFlow]
  | .idleTemperature t => [(tube t).idleTemperature]
  | .idleRate t => [(tube t).idleRate]
  | .idlePeriod t => [(tube t).idlePeriod]
  | .activityMask t => [(tube t).activityMask.toNat]
  | .wakeMask t => [(tube t).wakeMask.toNat]
  | .pushBand t => [(tube t).pushBand]
  | .bandLimit t => [(tube t).bandLimit]
  | .sealBand t => [(tube t).sealBand]
  | .tubeSource t k => [(s.proof (.tube t k)).source.num]
  | .tubeDebounce t k => [(s.proof (.tube t k)).debounce]
  | .tubeEnables t k => [bit (s.proof (.tube t k)).riseEnable, bit (s.proof (.tube t k)).fallEnable]
  | .exhThreshold t high => [if high then (tube t).exhHigh else (tube t).exhLow]

/-! ### Writes of bank settings -/

/-- What a write of a setting gives: the state after it, or the reason why it is refused. -/
abbrev Written := Except Reason State

/-- The sequencers' bank settings updated. -/
def State.modBank (s : State) (f : BankSettings → BankSettings) : State := { s with bank := f s.bank }

/-- The Condition Monitor's bank state updated. -/
def State.modMonitor (s : State) (f : Monitor → Monitor) : State := { s with monitor := f s.monitor }

/-- The Gas Allocator's bank state updated. -/
def State.modGas (s : State) (f : GasAllocator → GasAllocator) : State := { s with gas := f s.gas }

/-- Every tube's FLOW (R136). -/
def flowProofs : List ProofId := TubeId.all.map fun t => .tube t .flow

/-- A flow tolerance written: every tube's FLOW is derived anew (R136). -/
def State.writeTolerance (s : State) (min : Bool) (v : Nat) : State :=
  (if min then s.modMonitor fun m => { m with tolMin := clampTo 0 1000 v }
   else s.modMonitor fun m => { m with tolPct := clampTo 1 20 v }).deriveAll flowProofs

/-- The four priorities of a write that is a permutation of 0..3 (R115). -/
def priorities? (vs : List Nat) : Option (PerTube Nat) :=
  match vs with
  | [a, b, c, d] =>
    if [0, 1, 2, 3].all fun k => [a, b, c, d].contains k then some ⟨a, b, c, d⟩ else none
  | _ => none

/-- Region changes that the boundaries b0, b1 and b2 would make to a tube (R2, R3). -/
def State.regionChanges (s : State) (b0 b1 b2 : Nat) (t : TubeId) : Bool :=
  match t with
  | .t0 => s.b0 != b0
  | .t1 => s.b0 != b0 || s.b1 != b1
  | .t2 => s.b1 != b1 || s.b2 != b2
  | .t3 => s.b2 != b2

/-- A tube whose region may change: OUT_OF_SERVICE or IDLE (R3). -/
def Mode.regionFree : Mode → Bool
  | .outOfService => true
  | .idle _ => true
  | _ => false

/-- SET_REGIONS (R3). -/
def State.writeRegions (s : State) (v0 v1 v2 : Nat) : Written :=
  let b0 := min v0 Config.descriptors
  let b1 := min v1 Config.descriptors
  let b2 := min v2 Config.descriptors
  if ¬(b0 ≤ b1 ∧ b1 ≤ b2) then .error .badValue
  else if TubeId.all.any fun t => s.regionChanges b0 b1 b2 t && !(s.tube t).mode.regionFree then .error .tubeActive
  else .ok { s with b0 := b0, b1 := b1, b2 := b2 }

/-- The sources that a proof accepts (Table 58). -/
def sourceAllowed (p : ProofId) (x : Source) : Bool :=
  match p, x with
  | .tube _ .otc, .internal => false
  | .tube _ .flow, .internal => true
  | .tube _ .flow, _ => false
  | .bank .estop, .externalPass => true
  | .bank .estop, .externalComplement => true
  | .bank .estop, _ => false
  | _, _ => true

/-- A source write may be taken: its tube is OUT_OF_SERVICE, or for a bank proof the latch is set (R131). -/
def State.sourceState (s : State) : ProofId → Option Reason
  | .tube t _ => if (s.tube t).mode = .outOfService then none else some .tubeActive
  | .bank _ => if s.monitor.latch then none else some .badState

/-- A proof's source written, its raw value derived from the new source at once (R131, log entry 16). -/
def State.writeSource (s : State) (p : ProofId) (v : Nat) : Written :=
  match s.sourceState p, Source.ofNat? v with
  | some r, _ => .error r
  | none, none => .error .badValue
  | none, some x =>
    if sourceAllowed p x then .ok ((s.setProof p { s.proof p with source := x }).derive p) else .error .badValue

/-- A proof's debounce time written (R135). -/
def State.writeDebounce (s : State) (p : ProofId) (v : Nat) : State :=
  s.setProof p { s.proof p with debounce := clampTo 0 100 v }

/-- A yes/no byte's value. -/
def yesNo? (v : Nat) : Option Bool := if v = 0 then some false else if v = 1 then some true else none

/-- A proof's two edge enables written (R138). -/
def State.writeEnables (s : State) (p : ProofId) (rise fall : Nat) : Written :=
  match yesNo? rise, yesNo? fall with
  | some r, some f => .ok (s.setProof p { s.proof p with riseEnable := r, fallEnable := f })
  | _, _ => .error .badValue

/-! ### Writes of tube settings -/

/-- A write of a setting of the tube's hardware is accepted while the tube is OUT_OF_SERVICE (R51, R70, R117). -/
def State.outOnly (s : State) (t : TubeId) (w : Written) : Written :=
  if (s.tube t).mode = .outOfService then w else .error .tubeActive

/-- One line's header and maximum written (R70). -/
def State.writeLine (s : State) (t : TubeId) (l : LineId) (header maximum : Nat) : Written :=
  match headerChoice? header with
  | none => .error .badValue
  | some h =>
    if l = .l0 ∧ h ≠ some .inert then .error .badValue
    else .ok (s.modSettings t fun x => { x with
      lines := x.lines.set l { header := h, maximum := clampTo 0 50000 maximum } })

/-- Tmax written; a setpoint above it comes down to it (R51). -/
def State.writeTmax (s : State) (t : TubeId) (v : Nat) : State :=
  let m := clampTo 3000 13000 v
  (s.modSettings t fun x => { x with tmax := m }).modTube t fun x => { x with setpoint := min x.setpoint (10 * m) }

/-- The stroke written, not below P, and SEAL derived (R117, R128). -/
def State.writeStroke (s : State) (t : TubeId) (v : Nat) : State :=
  (s.modSettings t fun x => { x with stroke := clampTo (max 1 (s.tube t).position) 30000 v }).derive (.tube t .sealed)

/-- The standby flow written; in IDLE a new standby request is made (R82). -/
def State.writeStandby (s : State) (t : TubeId) (v : Nat) : State :=
  let s := s.modSettings t fun x => { x with standbyFlow := clampTo 0 50000 v }
  if (s.tube t).mode.isIdle then s.standbyRequest t else s

/-- The idle flow written; in IDLE_PURGE a new idle request is made (R83). -/
def State.writeIdleFlow (s : State) (t : TubeId) (v : Nat) : State :=
  let s := s.modSettings t fun x => { x with idleFlow := clampTo 0 50000 v }
  if (s.tube t).mode = .idlePurge then s.idleRequest t else s

/-- The idle period written; in IDLE the timer is loaded afresh (R150). -/
def State.writeIdlePeriod (s : State) (t : TubeId) (v : Nat) : State :=
  let s := s.modSettings t fun x => { x with idlePeriod := clampTo 0 1440 v }
  if (s.tube t).mode.isIdle then s.loadIdle t else s

/-- The activity mask or the wake mask written; a set that names another kind is refused (R154). -/
def State.writeMask (s : State) (t : TubeId) (wake : Bool) (v : Nat) : Written :=
  if v < 16 then
    .ok (s.modSettings t fun x =>
      if wake then { x with wakeMask := BitVec.ofNat 4 v } else { x with activityMask := BitVec.ofNat 4 v })
  else .error .badValue

/-- The event enables written (R24); a set with a bit outside the 15 kinds names no valid choice (R158). -/
def State.writeEventEnables (s : State) (t : TubeId) (v : Nat) : Written :=
  if v < 32768 then .ok (s.modSettings t fun x => { x with enables := BitVec.ofNat 15 v }) else .error .badValue

/-- An EXH threshold written: clamped, then refused where it would cross the other; EXH is judged again (R133). -/
def State.writeExhThreshold (s : State) (t : TubeId) (high : Bool) (v : Nat) : Written :=
  let v := clampTo 0 5000 v
  let x := (s.tube t).settings
  if high then
    if v < x.exhLow then .error .badValue
    else .ok ((s.modSettings t fun x => { x with exhHigh := v }).derive (.tube t .exh))
  else
    if x.exhHigh < v then .error .badValue
    else .ok ((s.modSettings t fun x => { x with exhLow := v }).derive (.tube t .exh))

/-- The push band written; a PUSH or PULL in PROVE is judged again (R119). -/
def State.writePushBand (s : State) (t : TubeId) (v : Nat) : State :=
  (s.modSettings t fun x => { x with pushBand := clampTo 0 500 v }).push [.judge t]

/-- The seal band written, and SEAL derived (R128). -/
def State.writeSealBand (s : State) (t : TubeId) (v : Nat) : State :=
  (s.modSettings t fun x => { x with sealBand := clampTo 0 1000 v }).derive (.tube t .sealed)

/-- An enumerated value written, refused where it names no choice (R158). -/
def enumWrite {α : Type} (x : Option α) (f : α → State) : Written :=
  match x with
  | some a => .ok (f a)
  | none => .error .badValue

/-- A setting written with the components of its value, by the rule of the item (R158, steps 3 and 4). -/
def State.writeSetting (s : State) (x : Setting) (vs : List Nat) : Written :=
  let v := vs.getD 0 0
  let w := vs.getD 1 0
  match x with
  | .capacity h => .ok (s.writeCapacity h (clampTo 0 200000 v))
  | .reserve => .ok (s.modGas fun g => { g with reserve := clampTo 0 200000 v }).gasPass
  | .emergencyFlow => .ok (s.modGas fun g => { g with emergencyFlow := clampTo 0 50000 v })
  | .emergencyTime => .ok (s.modBank fun b => { b with emergencyTime := clampTo 0 3600 v })
  | .policy => enumWrite (Policy.ofNat? v) fun a => (s.modGas fun g => { g with policy := a }).gasPass
  | .budget => .ok (s.modPower fun p => { p with budget := clampTo 0 20000 v }).powerInput
  | .holdReserve t =>
    .ok (s.modPower fun p => { p with holdReserve := p.holdReserve.set t (clampTo 0 5000 v) }).powerInput
  | .rampOrder => enumWrite (RampOrder.ofNat? v) fun a => (s.modPower fun p => { p with order := a }).powerInput
  | .priorities => enumWrite (priorities? vs) fun a => (s.modPower fun p => { p with priority := a }).powerInput
  | .cmax t z =>
    .ok ((s.modPower fun p => { p with
      cmax := p.cmax.set t ((p.cmax.get t).set z (clampTo 0 1000 v)) }).powerSequence false false)
  | .regions => s.writeRegions v w (vs.getD 2 0)
  | .proofTime => .ok (s.modBank fun b => { b with proofTime := clampTo 1 3600 v })
  | .flowLossTime => .ok (s.modBank fun b => { b with flowLossTime := clampTo 1 60 v })
  | .tolerance min => .ok (s.writeTolerance min v)
  | .flowSettleTime => .ok (s.modMonitor fun m => { m with flowSettleTime := clampTo 0 300 v })
  | .zoneStaleLimit => .ok (s.modBank fun b => { b with zoneStaleLimit := clampTo 1 600 v })
  | .inPositionBand => .ok (s.modBank fun b => { b with inPositionBand := clampTo 1 500 v })
  | .settleTime => .ok (s.modBank fun b => { b with settleTime := clampTo 1 60 v })
  | .followLimit => .ok (s.modBank fun b => { b with followLimit := clampTo 10 5000 v })
  | .stallTime => .ok (s.modBank fun b => { b with stallTime := clampTo 1 100 v })
  | .bankSource k => s.writeSource (.bank k) v
  | .bankDebounce k => .ok (s.writeDebounce (.bank k) v)
  | .bankEnables k => s.writeEnables (.bank k) v w
  | .coolingThreshold =>
    .ok ((s.modMonitor fun m => { m with coolingThreshold := clampTo 0 10000 v }).derive (.bank .cooling))
  | .faultAction t => enumWrite (FaultAction.ofNat? v) fun a => s.modSettings t fun x => { x with faultAction := a }
  | .eventEnables t => s.writeEventEnables t v
  | .line t l => s.outOnly t (s.writeLine t l v w)
  | .tmax t => s.outOnly t (.ok (s.writeTmax t v))
  | .stroke t => s.outOnly t (.ok (s.writeStroke t v))
  | .standbyFlow t => .ok (s.writeStandby t v)
  | .idleFlow t => .ok (s.writeIdleFlow t v)
  | .idleTemperature t => .ok (s.modSettings t fun x => { x with idleTemperature := clampTo 0 13000 v })
  | .idleRate t => .ok (s.modSettings t fun x => { x with idleRate := clampTo 1 5000 v })
  | .idlePeriod t => .ok (s.writeIdlePeriod t v)
  | .activityMask t => s.writeMask t false v
  | .wakeMask t => s.writeMask t true v
  | .pushBand t => .ok (s.writePushBand t v)
  | .bandLimit t => .ok (s.modSettings t fun x => { x with bandLimit := clampTo 0 65535 v })
  | .sealBand t => .ok (s.writeSealBand t v)
  | .tubeSource t k => s.writeSource (.tube t k) v
  | .tubeDebounce t k => .ok (s.writeDebounce (.tube t k) v)
  | .tubeEnables t k => s.writeEnables (.tube t k) v w
  | .exhThreshold t high => s.writeExhThreshold t high v

/-! ### Read-only items (R159, Table 76, log entry 9) -/

/-- A value of `n` bytes for each line. -/
def lineFields (n : Nat) (x : PerLine Nat) : List (Nat × Nat) := LineId.all.map fun l => (n, x.get l)

/-- A ramp direction's byte: 0 not yet fixed, 1 UP, 2 DOWN.  DESIGN CHOICE: no table of codes lists it (log entry 9). -/
def directionCode : Option Direction → Nat
  | none => 0
  | some .up => 1
  | some .down => 2

/-- A PURGE phase's byte: 0 HIGH, 1 LOW.  DESIGN CHOICE: no table of codes lists it (log entry 9). -/
def PurgePhase.num : PurgePhase → Nat
  | .high => 0
  | .low => 1

/-- The step of a tube, or the cleared record that counters outside a step read as (R54; for the others DESIGN CHOICE, log
entry 9). -/
def Tube.stepOrClear (x : Tube) : ActiveStep := x.step.getD (freshStep 65535 (List.replicate 48 0) none)

/-- Item 0x81: the current index, the copy, its check result and its counters (Tables 15, 9, 29, 38 and 51).  DESIGN CHOICE:
the order of the chapters' counters among each other (log entry 40); the check result reads 0 where the check passed, and the follow count (0..100) has the two bytes of the stall
time that it counts to (log entry 9). -/
def Tube.stepItem (x : Tube) : List Byte :=
  let st := x.stepOrClear
  joinLe [(2, st.index)] ++ st.record ++
    joinLe [(1, st.failed.getD 0), (1, st.rampAcc), (1, directionCode st.rampDir), (1, bit st.holdFlag), (4, st.bandHold), (4, st.soakCount),
      (1, st.pulse), (1, st.purgePhase.num), (2, st.phaseTime), (2, st.purgeHigh), (2, st.purgeLow), (1, st.motionAcc),
      (2, st.speed), (1, bit st.atTarget), (2, st.settleCount), (2, st.followCount), (2, st.proofTime),
      (1, st.flowLoss), (2, st.zoneStale), (4, st.syncWait)]

/-- Item 0x83: the last fault record (R44), kind 0 while it is empty (Table 73).  DESIGN CHOICE: the empty record's index then
reads 65535 and its field 0, and a field that is absent 0 (log entry 9). -/
def Tube.faultItem (x : Tube) : List (Nat × Nat) :=
  match x.lastFault with
  | none => [(1, 0), (2, 65535), (1, 0)]
  | some f => [(1, f.kind.num), (2, f.index), (1, f.field.getD 0)]

/-- Item 0x84: the ramp items, those that R54 lists in the order of Table 29.  DESIGN CHOICE: the zone setpoints, which that
table does not list, stand after the offsets (log entry 40). -/
def Tube.rampItem (x : Tube) : List (Nat × Nat) :=
  let st := x.stepOrClear
  [(4, x.setpoint)] ++ (ZoneId.all.map fun z => (2, unsigned16 (x.offsets.get z))) ++
    (ZoneId.all.map fun z => (2, x.zoneSetpoint z)) ++
    [(1, st.rampAcc), (1, directionCode st.rampDir), (1, bit st.holdFlag), (4, st.bandHold), (4, st.soakCount),
     (2, st.zoneStale)]

/-- Item 0x85: the loader items (R116).  DESIGN CHOICE: with no reading of the drive the actual position reads 65535 and the
drive-ready flag 0, and the follow count (0..100) has the two bytes of the stall time that it counts to (R159, log entry
9). -/
def State.loaderItem (s : State) (t : TubeId) : List (Nat × Nat) :=
  let x := s.tube t
  let st := x.stepOrClear
  let n := s.link.loaders.get t
  [(2, x.position), (1, bit x.taken), (2, optIndex (n.reading.map LoaderReading.actual)),
   (1, bit ((n.reading.map LoaderReading.ready).getD false)), (1, bit n.status.fresh), (1, st.motionAcc),
   (2, st.speed), (1, bit st.atTarget), (2, st.settleCount), (2, st.followCount)]

/-- Item 0x86: the line grants, the emergency mark, the line commands and the emergency purge time left in the order of Table
36, then the sent flows and the normal and emergency grants (R71, R77, R88, Table 42).  DESIGN CHOICE: that the sent flows
and the header grants are read in this item, and there (R159, log entry 40); the purge time left outside ABORTING is sent
as 0 (log entry 9). -/
def State.gasItem (s : State) (t : TubeId) : List (Nat × Nat) :=
  let x := s.tube t
  lineFields 2 x.gas.grant ++ [(1, bit x.gas.emergency)] ++ lineFields 2 x.gas.command ++
    [(2, match x.mode with
      | .aborting n => n
      | _ => 0)] ++
    lineFields 2 x.sentFlows ++ (Header.all.map fun h => (4, s.normalGrant t h)) ++ [(2, s.emergencyGrant t)]

/-- One proof as a READ shows it (Table 56). -/
def Proof.fields (p : Proof) : List (Nat × Nat) :=
  [(1, p.source.num), (1, bit p.raw), (1, bit p.proven), (1, p.debounce), (1, p.count), (1, bit p.riseEnable),
   (1, bit p.fallEnable)]

/-- Item 0x87: a tube's proof state, each with the rows of Table 56 that are its own.  DESIGN CHOICE: proof by proof (log entry
40). -/
def Tube.proofItem (x : Tube) : List (Nat × Nat) :=
  x.exhProof.fields ++ [(2, x.settings.exhLow), (2, x.settings.exhHigh)] ++ x.sealProof.fields ++ x.otcProof.fields ++
    x.flowProof.fields ++ [(2, x.flowSettle)]

/-- Item 0x98: a bank proof's state; COOLING's with its threshold (Table 56). -/
def State.bankProofItem (s : State) (k : BankProof) : List (Nat × Nat) :=
  (s.bankProof k).fields ++ match k with
    | .estop => []
    | .cooling => [(2, s.monitor.coolingThreshold)]

/-- Item 0x88: the idle timer, running with its time left or stopped, and the settle time left (R150, Table 15).  DESIGN
CHOICE: that the settle time left is read in this item (log entry 40); a stopped timer's time left is sent as 0 in its four bytes, and the settle time left outside SETTLING as 0 (log
entry 9). -/
def Tube.timerItem (x : Tube) : List (Nat × Nat) :=
  match x.mode with
  | .idle (some n) => [(1, 1), (4, n), (1, 0)]
  | .settling n => [(1, 0), (4, 0), (1, n)]
  | _ => [(1, 0), (4, 0), (1, 0)]

/-- A read-only item of tube scope. -/
def State.readTubeItem (s : State) (item : Nat) (t : TubeId) : Option (List Byte) :=
  let x := s.tube t
  match item with
  | 0x80 => some (joinLe (s.tubeSummary t))
  | 0x81 => some x.stepItem
  | 0x82 => some (joinLe [(2, optIndex x.loopOwner), (1, x.loopLeft)])
  | 0x83 => some (joinLe x.faultItem)
  | 0x84 => some (joinLe x.rampItem)
  | 0x85 => some (joinLe (s.loaderItem t))
  | 0x86 => some (joinLe (s.gasItem t))
  | 0x87 => some (joinLe x.proofItem)
  | 0x88 => some (joinLe x.timerItem)
  | _ => none

/-- Item 0x91: the gas request queue, oldest first (R89). -/
def State.gasQueueItem (s : State) : List (Nat × Nat) :=
  (1, s.gas.queue.length) :: s.gas.queue.flatMap fun e =>
    [(1, e.tube.num)] ++ (Header.all.map fun h => (4, e.amount.get h)) ++ [(1, bit e.oversize)]

/-- Item 0x92: the ramp request set, in order of arrival (R102). -/
def State.requestItem (s : State) : List (Nat × Nat) :=
  (1, s.power.requests.length) :: s.power.requests.flatMap fun r =>
    [(1, r.tube.num), (2, r.amount), (1, bit r.oversize)]

/-- Item 0x93: the ramp grant list, oldest first, and the rotate pointer (R103, R108). -/
def State.grantItem (s : State) : List (Nat × Nat) :=
  ((1, s.power.grants.length) :: s.power.grants.flatMap fun g => [(1, g.tube.num), (2, g.amount)]) ++
    [(1, s.power.pointer.num)]

/-- Item 0x95: a mark (Table 24). -/
def Mark.fields (k : Mark) : List (Nat × Nat) :=
  [(1, bit k.set), (1, (k.setter.map TubeId.num).getD 255), (1, k.waiters.length)] ++
    k.waiters.flatMap fun w => [(1, w.tube.num), (1, bit w.consume)]

/-- The bank error record in its five bytes (Table 71, note 2).  DESIGN CHOICE: the kind byte of an empty record, which no
table gives a code, is 0 (R161, log entry 9). -/
def errorFields (e : Option BankError) : List (Nat × Nat) :=
  match e with
  | none => [(1, 0), (1, 255), (2, 65535), (1, 0)]
  | some r => [(1, r.kind.num), (1, (r.tube.map TubeId.num).getD 255), (2, optIndex r.index), (1, r.field.getD 0)]

/-- A node's mark, stale cause and miss count (Table 63). -/
def NodeStatus.fields (st : NodeStatus) : List (Nat × Nat) :=
  [(1, bit st.fresh), (1, match st.cause with
    | .missed => 0
    | .sensorOpen => 1), (1, st.misses)]

/-- A zone unit's reading as a READ shows it: temperature, then status, 0 OK or 1 SENSOR_OPEN (Table 64, log entry 9). -/
def ZoneReading.fields (r : ZoneReading) : List (Nat × Nat) :=
  [(2, r.temperature), (1, match r.status with
    | .ok => 0
    | .sensorOpen => 1)]

/-- A loader drive's reading as a READ shows it. -/
def LoaderReading.fields (r : LoaderReading) : List (Nat × Nat) := [(2, r.actual), (1, bit r.ready)]

/-- The bank node's reading as a READ shows it, in the order of Table 64.  DESIGN CHOICE: the per-tube contacts stand kind by
kind, each for tubes 0 to 3 (R159, log entry 40). -/
def BankReading.fields (b : BankReading) : List (Nat × Nat) :=
  let flags : PerTube Bool → List (Nat × Nat) := fun x => TubeId.all.map fun t => (1, bit (x.get t))
  (TubeId.all.map fun t => (2, b.exhaust.get t)) ++ [(2, b.cooling)] ++ flags b.exhContact ++ flags b.sealSwitch ++
    flags b.otContact ++ [(1, bit b.coolingContact), (1, bit b.estopChain)]

/-- Item 0x97: a node's latest reading, with whether there is one, and its status (R147).  DESIGN CHOICE: the poll and safe
exchange marks, which R147 does not name, are not in it (log entry 40). -/
def State.nodeItem (s : State) (n : NodeId) : List (Nat × Nat) :=
  let reading : List (Nat × Nat) := match n with
    | .zone t z => (((s.link.zones.get t).get z).reading.map fun v => (1, 1) :: v.fields).getD [(1, 0)]
    | .flow t => ((s.link.flows.get t).reading.map fun m => (1, 1) :: lineFields 2 m).getD [(1, 0)]
    | .loader t => ((s.link.loaders.get t).reading.map fun r => (1, 1) :: r.fields).getD [(1, 0)]
    | .bank => (s.link.bank.reading.map fun b => (1, 1) :: b.fields).getD [(1, 0)]
  reading ++ (s.nodeStatus n).fields

/-- A read-only item of bank scope. -/
def State.readBankItem (s : State) (item index : Nat) : Option (List Byte) :=
  let plain := fun (x : List (Nat × Nat)) => if index = 0 then some (joinLe x) else none
  match item with
  | 0x90 => plain s.bankSummary
  | 0x91 => plain s.gasQueueItem
  | 0x92 => plain s.requestItem
  | 0x93 => plain s.grantItem
  | 0x94 => (zoneOfIndex? index).map fun x => joinLe [(2, (s.power.ceiling.get x.1).get x.2)]
  | 0x95 => (MarkId.ofNat? index).map fun m => joinLe (s.mark m).fields
  | 0x96 => plain (errorFields s.bankError)
  | 0x97 => (NodeId.ofAddress? index).map fun n => joinLe (s.nodeItem n)
  | 0x98 => (BankProof.ofNat? index).map fun k => joinLe (s.bankProofItem k)
  | _ => none

/-- The contents of an item: a setting's value, or a read-only item (R159). -/
def State.readItem (s : State) (item index : Nat) : Option (List Byte) :=
  match settingOf? item index, itemWidths? item with
  | some x, some ws => some (joinLe (ws.zip (s.settingValue x)))
  | _, _ =>
    if item < 0x90 then
      match tubeIndex? index with
      | some (t, 0) => s.readTubeItem item t
      | _ => none
    else s.readBankItem item index

end Sys2Proof.Machine
end

