-- ==== Sys2Proof/Machine/Commands.lean ====
section
/-!
DEFINITION. The commands of the port masters (Table 71): their codes, port classes and payloads, the judgement that every
command shares (R157), each command's own rule, and the one reply that each gets.
-/

namespace Sys2Proof.Machine

open Sys2Proof

/-- A command as its owning block takes it (Table 71). -/
inductive Cmd where
  | read (item index : Nat)
  | readStep (index : Nat)
  | writeStep (index : Nat) (record : List Byte)
  | start (entry : Nat)
  | hold
  | resume
  | skip
  | abort
  /-- A station sends no payload, the facility a tube byte. -/
  | serviceOut (tube : Option Nat)
  | serviceIn (tube : Option Nat)
  /-- SET_TUBE, or SET_BANK where `bank` is true, with the components of the value. -/
  | set (bank : Bool) (item index : Nat) (values : List Nat)
  | clearEvents (kinds : Nat)
  | clearMark (mark : Nat)
  | clearError
  | bankHold
  | bankRelease
  | bankStop
  | bankReset
  | clearBankEvents (kinds : Nat)
deriving DecidableEq, Repr

/-! ### Codes, classes and payloads (Table 71) -/

/-- The ports that a command code belongs to. -/
inductive PortClass where
  | any | station | facility
deriving DecidableEq, Repr

/-- The class of a CODE; none for a CODE that names no command, reply and note codes among them (R157, step 1). -/
def codeClass? (code : Nat) : Option PortClass :=
  match code with
  | 0x01 | 0x02 | 0x0D | 0x0E | 0x09 | 0x0A => some .any
  | 0x03 | 0x04 | 0x05 | 0x06 | 0x07 | 0x08 | 0x0B | 0x0C => some .station
  | 0x20 | 0x21 | 0x22 | 0x23 | 0x24 | 0x25 => some .facility
  | _ => none

/-- A port may send a command of a class (R157, step 2). -/
def PortClass.allows : PortClass → Port → Bool
  | .any, _ => true
  | .station, .station _ => true
  | .facility, .facility => true
  | _, _ => false

/-- A command's CODE. -/
def Cmd.code : Cmd → Nat
  | .read _ _ => 0x01
  | .readStep _ => 0x02
  | .writeStep _ _ => 0x03
  | .start _ => 0x04
  | .hold => 0x05
  | .resume => 0x06
  | .skip => 0x07
  | .abort => 0x08
  | .serviceOut _ => 0x09
  | .serviceIn _ => 0x0A
  | .set false _ _ _ => 0x0B
  | .clearEvents _ => 0x0C
  | .clearMark _ => 0x0D
  | .clearError => 0x0E
  | .set true _ _ _ => 0x20
  | .bankHold => 0x21
  | .bankRelease => 0x22
  | .bankStop => 0x23
  | .bankReset => 0x24
  | .clearBankEvents _ => 0x25

/-- A command's payload as a master sends it (Table 71). -/
def Cmd.payload : Cmd → List Byte
  | .read item index => le 1 item ++ le 1 index
  | .readStep index => le 2 index
  | .writeStep index record => le 2 index ++ record
  | .start entry => le 2 entry
  | .serviceOut (some t) => le 1 t
  | .serviceIn (some t) => le 1 t
  | .set _ item index values => le 1 item ++ le 1 index ++ joinLe (((itemWidths? item).getD []).zip values)
  | .clearEvents kinds => le 2 kinds
  | .clearMark m => le 1 m
  | .clearBankEvents kinds => le 1 kinds
  | _ => []

/-- A command's frame. -/
def Cmd.frame (c : Cmd) : Frame := { code := BitVec.ofNat 8 c.code, payload := c.payload }

/-- A payload without bytes. -/
def emptyPayload (payload : List Byte) (c : Cmd) : Option Cmd := if payload.isEmpty then some c else none

/-- A payload of `n` bytes, as one number. -/
def numberPayload (n : Nat) (payload : List Byte) (f : Nat → Cmd) : Option Cmd :=
  if payload.length = n then some (f (fromLe payload)) else none

/-- The tube argument of SERVICE_IN and SERVICE_OUT: a station sends none, the facility one byte (Table 71). -/
def servicePayload (p : Port) (payload : List Byte) (f : Option Nat → Cmd) : Option Cmd :=
  match p, payload with
  | .station _, [] => some (f none)
  | .facility, [b] => some (f (some b.toNat))
  | _, _ => none

/-- The payload of SET_TUBE and SET_BANK: item, index, and a value of the item's width.  An item code that names no
setting has no width to match, and goes on to R158 (log entry 10). -/
def setPayload (bank : Bool) (payload : List Byte) : Option Cmd :=
  match payload with
  | item :: index :: value =>
    match itemWidths? item.toNat with
    | some ws => if value.length = ws.sum then some (.set bank item.toNat index.toNat (splitLe ws value)) else none
    | none => some (.set bank item.toNat index.toNat [])
  | _ => none

/-- The command that a payload spells under a CODE; none where its length does not match the layout (R157, step 3). -/
def parse? (p : Port) (code : Nat) (payload : List Byte) : Option Cmd :=
  match code with
  | 0x01 =>
    match payload with
    | [item, index] => some (.read item.toNat index.toNat)
    | _ => none
  | 0x02 => numberPayload 2 payload .readStep
  | 0x03 => if payload.length = 50 then some (.writeStep (fromLe (payload.take 2)) (payload.drop 2)) else none
  | 0x04 => numberPayload 2 payload .start
  | 0x05 => emptyPayload payload .hold
  | 0x06 => emptyPayload payload .resume
  | 0x07 => emptyPayload payload .skip
  | 0x08 => emptyPayload payload .abort
  | 0x09 => servicePayload p payload .serviceOut
  | 0x0A => servicePayload p payload .serviceIn
  | 0x0B => setPayload false payload
  | 0x0C => numberPayload 2 payload .clearEvents
  | 0x0D => numberPayload 1 payload .clearMark
  | 0x0E => emptyPayload payload .clearError
  | 0x20 => setPayload true payload
  | 0x21 => emptyPayload payload .bankHold
  | 0x22 => emptyPayload payload .bankRelease
  | 0x23 => emptyPayload payload .bankStop
  | 0x24 => emptyPayload payload .bankReset
  | 0x25 => numberPayload 1 payload .clearBankEvents
  | _ => none

/-- The command's arguments have the lengths of its layout from this port (R157, step 3). -/
def Cmd.lengthOk (p : Port) : Cmd → Bool
  | .writeStep _ record => record.length == Config.recordBytes
  | .serviceOut tube | .serviceIn tube =>
    match p with
    | .station _ => tube.isNone
    | .facility => tube.isSome
  | .set _ item _ values =>
    match itemWidths? item with
    | some ws => values.length == ws.length
    | none => values.isEmpty
  | _ => true

/-! ### What a command gives -/

/-- A command's outcome: refused with a reason, the state being unchanged, or accepted with its ACK data (R157). -/
abbrev Verdict := Except Reason (State × List Byte)

/-- Accepted without ACK data. -/
def accept (s : State) : Verdict := .ok (s, [])

/-! ### Profile Memory (R6, R7) -/

/-- READ_STEP (R7). -/
def State.cmdReadStep (s : State) (index : Nat) : Verdict :=
  if index < Config.descriptors then .ok (s, le 2 index ++ s.readRecord index) else .error .badValue

/-- WRITE_STEP (R6). -/
def State.cmdWriteStep (s : State) (t : TubeId) (index : Nat) (record : List Byte) : Verdict :=
  if s.inRegion t index then .ok (s.writeRecord index record, le 2 index) else .error .outOfRegion

/-! ### Run commands (R28 to R34) -/

/-- START as taken: any queued standby or idle request is withdrawn, the loop register cleared, WAKE raised from
IDLE_PURGE, the entry loaded (R28, R74). -/
def State.startRun (s : State) (t : TubeId) (entry : Nat) : State :=
  let woke := (s.tube t).mode == .idlePurge
  let s := s.withdrawGas t
  let s := s.modTube t fun x => { x with mode := .running .notStarted, loopOwner := none, loopLeft := 0 }
  (if woke then s.raise t .wake else s).load t entry none

/-- START (R28). -/
def State.cmdStart (s : State) (t : TubeId) (entry : Nat) : Verdict :=
  if s.monitor.latch then .error .bankStopped
  else if !s.inRegion t entry then .error .outOfRegion
  else
    match (s.tube t).mode with
    | .idle _ => accept (s.startRun t entry)
    | .idlePurge => accept (s.startRun t entry)
    | _ => .error .badState

/-- HOLD (R29). -/
def State.cmdHold (s : State) (t : TubeId) : Verdict :=
  match (s.tube t).mode with
  | .running ph => accept ((s.setMode t (.held .station ph)).raise t .held)
  | .held _ _ => accept s
  | _ => .error .badState

/-- The counter that gave a fault set to 0, and the hold flag cleared (R31, R59, Table 52). -/
def ActiveStep.clearFault (st : ActiveStep) (k : Option Kind) : ActiveStep :=
  let st := { st with holdFlag := false }
  match k with
  | some .gasLost => { st with flowLoss := 0 }
  | some .zoneStale => { st with zoneStale := 0 }
  | some .bandTimeout => { st with bandHold := 0 }
  | some .syncTimeout => { st with syncWait := 0 }
  | some .pushStall => { st with settleCount := 0, followCount := 0 }
  | _ => st

/-- RESUME from HELD (STATION) (R31). -/
def State.resumeHeld (s : State) (t : TubeId) (ph : Phase) : State :=
  let s := s.setMode t (.running ph)
  match ph with
  | .acquire => if s.hasGasEntry t then s else s.enterProve t
  | .prove => s.push [.judge t]
  | .execute => if (s.tube t).action = some .sync then s.judgeSync t else s
  | .notStarted => s

/-- RESUME from HELD (FAULT): the tube enters RUNNING, noted even where the step faults again at once, and the step re-enters
PROVE (R31, R163). -/
def State.resumeFault (s : State) (t : TubeId) (ph : Phase) (st : ActiveStep) : State :=
  let k := (s.tube t).lastFault.map FaultRecord.kind
  ((s.setStep t (some (st.clearFault k))).modTubeNoted t fun x => { x with mode := .running ph }).enterProve t

/-- RESUME as taken: the tube enters RUNNING, noted even where a failed check returns it to HELD (INVALID); a reload at
NOT_STARTED or from HELD (INVALID), PROVE from HELD (FAULT), otherwise the step goes on (R31, R163). -/
def State.resumeRun (s : State) (t : TubeId) (r : HoldReason) (ph : Phase) (st : ActiveStep) : State :=
  if ph = .notStarted ∨ r = .invalid then
    (s.modTubeNoted t fun x => { x with mode := .running .notStarted }).load t st.index none
  else if r = .fault then s.resumeFault t ph st
  else s.resumeHeld t ph

/-- RESUME (R31). -/
def State.cmdResume (s : State) (t : TubeId) : Verdict :=
  match (s.tube t).mode, (s.tube t).step with
  | .held r ph, some st => if s.monitor.hold then .error .bankHold else accept (s.resumeRun t r ph st)
  | _, _ => .error .badState

/-- SKIP as taken: the queued request is withdrawn and the step completes (R32). -/
def State.skipStep (s : State) (t : TubeId) (held : Option HoldReason) : State :=
  (s.withdrawGas t).completeStep t held

/-- SKIP (R32, R33). -/
def State.cmdSkip (s : State) (t : TubeId) : Verdict :=
  match (s.tube t).mode, (s.tube t).step with
  | .running _, some _ => accept (s.skipStep t none)
  | .held r _, some st =>
    if r = .invalid ∧ s.mayLink t st = false then .error .badState
    else accept (s.skipStep t (some r))
  | _, _ => .error .badState

/-- ABORT (R34). -/
def State.cmdAbort (s : State) (t : TubeId) : Verdict :=
  match (s.tube t).mode with
  | .running _ => accept (s.enterAborting t)
  | .held _ _ => accept (s.enterAborting t)
  | .aborting _ => accept s
  | _ => .error .badState

/-! ### Service changes (R25, R27) -/

/-- SERVICE_IN for a tube (R25). -/
def State.cmdServiceIn (s : State) (t : TubeId) : Verdict :=
  match (s.tube t).mode with
  | .settling _ => .error .notReady
  | .outOfService => accept (s.setMode t (.settling Config.settleTicks)).powerInput
  | _ => .error .badState

/-- SERVICE_OUT for a tube (R27). -/
def State.cmdServiceOut (s : State) (t : TubeId) : Verdict :=
  match (s.tube t).mode with
  | .idle _ => accept (s.leaveService t)
  | .idlePurge => accept (s.leaveService t)
  | .settling _ => accept (s.leaveService t)
  | _ => .error .tubeActive

/-- The tube of a service command: the station's own, or the one that the facility names (R25, R157). -/
def serviceTube? (p : Port) (arg : Option Nat) : Option TubeId :=
  match p with
  | .station t => some t
  | .facility => arg.bind TubeId.ofNat?

/-! ### Events, marks and the error record (R50, R160, R161) -/

/-- CLEAR_EVENTS (R160). -/
def State.cmdClearEvents (s : State) (t : TubeId) (kinds : Nat) : Verdict :=
  if kinds < 32768 then
    let left := (s.tube t).events &&& ~~~(BitVec.ofNat 15 kinds)
    .ok (s.modTube t fun x => { x with events := left }, le 2 left.toNat)
  else .error .badValue

/-- CLEAR_BANK_EVENTS (R160). -/
def State.cmdClearBankEvents (s : State) (kinds : Nat) : Verdict :=
  if kinds < 128 then
    let left := s.bankEvents &&& ~~~(BitVec.ofNat 7 kinds)
    .ok ({ s with bankEvents := left }, le 1 left.toNat)
  else .error .badValue

/-- CLEAR_MARK: the mark clear, its setter absent, its waiter list kept (R50). -/
def State.cmdClearMark (s : State) (m : Nat) : Verdict :=
  match MarkId.ofNat? m with
  | some k => accept (s.setMark k { s.mark k with set := false, setter := none })
  | none => .error .badValue

/-- CLEAR_ERROR: the ACK carries the record as it stood (R161). -/
def State.cmdClearError (s : State) : Verdict := .ok ({ s with bankError := none }, joinLe (errorFields s.bankError))

/-! ### Bank hold, release and stop (R141 to R143) -/

/-- A tube is HELD (BANK). -/
def State.heldByBank (s : State) (t : TubeId) : Bool :=
  match (s.tube t).mode with
  | .held .bank _ => true
  | _ => false

/-- A HELD (BANK) tube enters RUNNING and its step begins with the copy loaded before the hold (R45). -/
def State.releaseTube (s : State) (t : TubeId) : State := (s.setMode t (.running .notStarted)).push [.beginStep t]

/-- BANK_RELEASE (R142). -/
def State.cmdBankRelease (s : State) : Verdict :=
  if s.monitor.latch && !s.monitor.estopProof.proven then .error .badState
  else
    let s := s.modMonitor fun m => { m with latch := false, hold := false }
    accept ((s.someTubes s.heldByBank).foldl State.releaseTube (s.drewTubes s.heldByBank))

/-! ### READ and SET (R158, R159) -/

/-- READ (R159). -/
def State.cmdRead (s : State) (item index : Nat) : Verdict :=
  match s.readItem item index with
  | some bytes => .ok (s, le 1 item ++ le 1 index ++ bytes)
  | none => .error .badValue

/-- A write of a setting by its owning port: the ACK carries item, index and the value taken (R158). -/
def State.setAccepted (s : State) (x : Setting) (item index : Nat) (values : List Nat) : Verdict :=
  match s.writeSetting x values with
  | .error r => .error r
  | .ok u =>
    .ok (u, le 1 item ++ le 1 index ++ joinLe (((itemWidths? item).getD []).zip (u.settingValue x)))

/-- The setting may be written by this command: a bank item by SET_BANK, a tube item by SET_TUBE from the tube's own
station (R158, step 2). -/
def Setting.writable (x : Setting) (p : Port) (bank : Bool) : Bool :=
  match x.owner, p with
  | none, _ => bank
  | some t, .station u => !bank && decide (t = u)
  | some _, .facility => false

/-- SET_TUBE and SET_BANK (R158). -/
def State.cmdSet (s : State) (p : Port) (bank : Bool) (item index : Nat) (values : List Nat) : Verdict :=
  match settingOf? item index with
  | none => .error .badValue
  | some x => if x.writable p bank then s.setAccepted x item index values else .error .notOwner

/-! ### Delivery and reply (R157) -/

/-- A run command addresses the station's own tube (R157). -/
def ownTube (p : Port) (f : TubeId → Verdict) : Verdict :=
  match p with
  | .station t => f t
  | .facility => .error .notOwner

/-- A service command addresses the tube that `serviceTube?` finds; a tube number above 3 is refused (R157). -/
def onServiceTube (p : Port) (arg : Option Nat) (f : TubeId → Verdict) : Verdict :=
  match serviceTube? p arg with
  | some t => f t
  | none => .error .badValue

/-- The command judged by the rule of its owning block (R157, step 5).  BANK_RESET is acknowledged here; the reset
follows the reply (R165). -/
def State.deliver (s : State) (p : Port) : Cmd → Verdict
  | .read item index => s.cmdRead item index
  | .readStep index => s.cmdReadStep index
  | .writeStep index record => ownTube p fun t => s.cmdWriteStep t index record
  | .start entry => ownTube p fun t => s.cmdStart t entry
  | .hold => ownTube p s.cmdHold
  | .resume => ownTube p s.cmdResume
  | .skip => ownTube p s.cmdSkip
  | .abort => ownTube p s.cmdAbort
  | .serviceOut arg => onServiceTube p arg s.cmdServiceOut
  | .serviceIn arg => onServiceTube p arg s.cmdServiceIn
  | .set bank item index values => s.cmdSet p bank item index values
  | .clearEvents kinds => ownTube p fun t => s.cmdClearEvents t kinds
  | .clearMark m => s.cmdClearMark m
  | .clearError => s.cmdClearError
  | .bankHold => accept (s.modMonitor fun m => { m with hold := true })
  | .bankRelease => s.cmdBankRelease
  | .bankStop => accept (s.setLatch .bankStop)
  | .bankReset => accept s
  | .clearBankEvents kinds => s.cmdClearBankEvents kinds

/-- SERVICE_OUT is the one command that a station may send while its tube is SETTLING (R26). -/
def Cmd.isServiceOut : Cmd → Bool
  | .serviceOut _ => true
  | _ => false

/-- The station's tube is SETTLING (R157, step 4). -/
def State.portSettling (s : State) : Port → Bool
  | .station t => (s.tube t).mode.isSettling
  | .facility => false

/-- The judgement of R157 from the port class on (steps 2 to 5). -/
def State.judgeCommand (s : State) (p : Port) (c : Cmd) : Verdict :=
  if !((codeClass? c.code).any fun k => k.allows p) then .error .notOwner
  else if !c.lengthOk p then .error .badValue
  else if s.portSettling p && !c.isServiceOut then .error .notReady
  else s.deliver p c

/-- PORT_COMMAND activity of a command accepted from a station (R151). -/
def State.portActivity (s : State) : Port → State
  | .station t => s.push [.activity t Activity.portCommand.bit]
  | .facility => s

/-- A command taken: its effect, its one reply, the activity of its acceptance, and the bank reset that follows the ACK
of BANK_RESET (R157, R165). -/
def State.command (s : State) (p : Port) (c : Cmd) : State :=
  let code := BitVec.ofNat 8 c.code
  match s.judgeCommand p c with
  | .error r => s.addReply p (refuseFrame code r)
  | .ok (u, data) =>
    let u := (u.addReply p (ackFrame code data)).portActivity p
    if c = .bankReset then u.bankReset else u

/-- A frame taken from the queue: an unknown CODE, a command of the other class or a payload of the wrong length is
refused, and a command is judged (R157). -/
def State.takeFrame (s : State) (p : Port) (f : Frame) : State :=
  match codeClass? f.code.toNat with
  | none => s.addReply p (refuseFrame f.code .unknown)
  | some k =>
    if !k.allows p then s.addReply p (refuseFrame f.code .notOwner)
    else
      match parse? p f.code.toNat f.payload with
      | none => s.addReply p (refuseFrame f.code .badValue)
      | some c => s.command p c

/-- The engine takes its oldest frame, when it may (R157). -/
def State.takeCommand (s : State) (p : Port) : State :=
  let e := s.port p
  match e.mayTake, e.queue with
  | true, f :: rest => (s.setPort p (e.take rest)).takeFrame p f
  | _, _ => s

end Sys2Proof.Machine
end

