-- ==== Sys2Proof/Machine/CommandFamily.lean ====
section
/-!
DEFINITION. The meanings of the commands of the port masters (R6, R7, R25 to R34, R50, R141 to R143, R157, R159 to R161, R165): each is
the command taken from its port, with its reply.
-/

namespace Sys2Proof.Machine

open Sys2Proof

/-- READ (R159). -/
def execRead (p : Port) (item index : Nat) (s : State) : Host.Outcome State Fault Refusal :=
  .next (s.act fun s => s.command p (.read item index))

/-- READ_STEP (R7). -/
def execReadStep (p : Port) (index : Nat) (s : State) : Host.Outcome State Fault Refusal :=
  .next (s.act fun s => s.command p (.readStep index))

/-- WRITE_STEP (R6). -/
def execWriteStep (p : Port) (index : Nat) (record : List Byte) (s : State) : Host.Outcome State Fault Refusal :=
  .next (s.act fun s => s.command p (.writeStep index record))

/-- START (R28). -/
def execStart (p : Port) (entry : Nat) (s : State) : Host.Outcome State Fault Refusal :=
  .next (s.act fun s => s.command p (.start entry))

/-- HOLD (R29). -/
def execHold (p : Port) (s : State) : Host.Outcome State Fault Refusal :=
  .next (s.act fun s => s.command p .hold)

/-- RESUME (R31). -/
def execResume (p : Port) (s : State) : Host.Outcome State Fault Refusal :=
  .next (s.act fun s => s.command p .resume)

/-- SKIP (R32, R33). -/
def execSkip (p : Port) (s : State) : Host.Outcome State Fault Refusal :=
  .next (s.act fun s => s.command p .skip)

/-- ABORT (R34). -/
def execAbort (p : Port) (s : State) : Host.Outcome State Fault Refusal :=
  .next (s.act fun s => s.command p .abort)

/-- SERVICE_IN (R25). -/
def execServiceIn (p : Port) (tube : Option Nat) (s : State) : Host.Outcome State Fault Refusal :=
  .next (s.act fun s => s.command p (.serviceIn tube))

/-- SERVICE_OUT (R27). -/
def execServiceOut (p : Port) (tube : Option Nat) (s : State) : Host.Outcome State Fault Refusal :=
  .next (s.act fun s => s.command p (.serviceOut tube))

/-- CLEAR_EVENTS (R160). -/
def execClearEvents (p : Port) (kinds : Nat) (s : State) : Host.Outcome State Fault Refusal :=
  .next (s.act fun s => s.command p (.clearEvents kinds))

/-- CLEAR_MARK (R50). -/
def execClearMark (p : Port) (mark : Nat) (s : State) : Host.Outcome State Fault Refusal :=
  .next (s.act fun s => s.command p (.clearMark mark))

/-- CLEAR_ERROR (R161). -/
def execClearError (p : Port) (s : State) : Host.Outcome State Fault Refusal :=
  .next (s.act fun s => s.command p .clearError)

/-- CLEAR_BANK_EVENTS (R160). -/
def execClearBankEvents (p : Port) (kinds : Nat) (s : State) : Host.Outcome State Fault Refusal :=
  .next (s.act fun s => s.command p (.clearBankEvents kinds))

/-- BANK_HOLD (R143). -/
def execBankHold (p : Port) (s : State) : Host.Outcome State Fault Refusal :=
  .next (s.act fun s => s.command p .bankHold)

/-- BANK_RELEASE (R142). -/
def execBankRelease (p : Port) (s : State) : Host.Outcome State Fault Refusal :=
  .next (s.act fun s => s.command p .bankRelease)

/-- BANK_STOP (R141). -/
def execBankStop (p : Port) (s : State) : Host.Outcome State Fault Refusal :=
  .next (s.act fun s => s.command p .bankStop)

/-- BANK_RESET (R165). -/
def execBankReset (p : Port) (s : State) : Host.Outcome State Fault Refusal :=
  .next (s.act fun s => s.command p .bankReset)

end Sys2Proof.Machine
end

