-- ==== Sys2Proof/Machine/LinkFamily.lean ====
section
/-!
DEFINITION. The meanings of the field link's events (R144 to R149).
-/

namespace Sys2Proof.Machine

open Sys2Proof

/-- POLL_DUE (R144). -/
def execPollDue (n : NodeId) (s : State) : Host.Outcome State Fault Refusal :=
  .next (s.act fun s => s.pollPeriod n)

/-- EXCHANGE_TAKEN (R144, R145, R149). -/
def execExchangeTaken (s : State) : Host.Outcome State Fault Refusal :=
  .next (s.act fun s => s.takeExchange)

/-- GOOD_REPLY (R146, R147). -/
def execGoodReply (n : NodeId) (reading : WireReading) (s : State) : Host.Outcome State Fault Refusal :=
  .next (s.act fun s => s.takeReply n reading)

/-- REPLY_TIMEOUT (R147). -/
def execReplyTimeout (n : NodeId) (s : State) : Host.Outcome State Fault Refusal :=
  .next (s.act fun s => s.replyLost n)

end Sys2Proof.Machine
end

