-- ==== Sys2Proof/Machine/PortFamily.lean ====
section
/-!
DEFINITION. The meanings of the port engines' own steps (R155 to R157, R164).
-/

namespace Sys2Proof.Machine

open Sys2Proof

/-- FRAME_RECEIVED: these bytes arrive one after another (R155, R156). -/
def execFrameReceived (p : Port) (bytes : List Byte) (s : State) : Host.Outcome State Fault Refusal :=
  .next (s.act fun s => s.modPort p fun e => bytes.foldl PortEngine.byte e)

/-- INTER_BYTE_TIMEOUT (R155). -/
def execInterByteTimeout (p : Port) (s : State) : Host.Outcome State Fault Refusal :=
  .next (s.act fun s => s.modPort p PortEngine.gap)

/-- COMMAND_TAKEN (R157). -/
def execCommandTaken (p : Port) (s : State) : Host.Outcome State Fault Refusal :=
  .next (s.act fun s => s.takeCommand p)

/-- TRANSMITTER_FREE (R163, R164). -/
def execTransmitterFree (p : Port) (s : State) : Host.Outcome State Fault Refusal :=
  .next (s.act fun s => s.transmit p)

/-- SYNC_BYTE_RECEIVED: a SYNC byte begins a frame, or is a byte of the frame being received (R155). -/
def execSyncByteReceived (p : Port) (s : State) : Host.Outcome State Fault Refusal :=
  .next (s.act fun s => s.modPort p fun e => e.byte Config.syncByte)

/-- LEN_ABOVE_250: this byte arrives; as the LEN of a frame and above 250 it abandons the frame (R155). -/
def execLenAbove250 (p : Port) (len : Byte) (s : State) : Host.Outcome State Fault Refusal :=
  .next (s.act fun s => s.modPort p fun e => e.byte len)

end Sys2Proof.Machine
end

