-- ==== Sys2Proof/Machine/PowerFamily.lean ====
section
/-!
DEFINITION. The meanings of POWER_ON and RESET_PIN.
-/

namespace Sys2Proof.Machine

open Sys2Proof

/-- POWER_ON (R23 and the power-on column of every chapter). -/
def execPowerOn (s : State) : Host.Outcome State Fault Refusal :=
  .next s.powerOn

/-- RESET_PIN: a low level on RESET is a bank reset (R23). -/
def execResetPin (s : State) : Host.Outcome State Fault Refusal :=
  .next (s.act fun s => s.bankReset)

end Sys2Proof.Machine
end

