-- ==== Sys2Proof/Machine/ProofFamily.lean ====
section
/-!
DEFINITION. The meanings of the Condition Monitor's own steps (R135, R137, R138, log entry 17).
-/

namespace Sys2Proof.Machine

open Sys2Proof

/-- PROOF_EDGE: the count of a proof whose raw value differs from its proven value reaches the debounce time (R135, R138). -/
def execProofEdge (proof : ProofId) (s : State) : Host.Outcome State Fault Refusal :=
  .next (s.act fun s => if (s.proof proof).raw != (s.proof proof).proven && !s.flowHeld proof then s.proveEdge proof else s)

/-- FLOW_SETTLE_END: the flow settle time left of a hold reaches 0 (R137). -/
def execFlowSettleEnd (t : TubeId) (s : State) : Host.Outcome State Fault Refusal :=
  .next (s.act fun s => if 0 < (s.tube t).flowSettle then s.endFlowHold t else s)

end Sys2Proof.Machine
end

