-- ==== Sys2Proof/Machine/SettingFamily.lean ====
section
/-!
DEFINITION. The meanings of the setting writes: each is a SET_TUBE or SET_BANK of its item, judged as R157, R158 and the item's
rule give, with its reply.
-/

namespace Sys2Proof.Machine

open Sys2Proof

/-- The components of a SET's value bytes, at the item's widths; none where the lengths differ, so that the command's
length does not match (R157). -/
def settingValues (item : Nat) (value : List Byte) : List Nat :=
  match itemWidths? item with
  | some ws => if value.length = ws.sum then splitLe ws value else []
  | none => []

/-- A SET_TUBE or SET_BANK of one proof's item: the tube item's code and the bank item's (Table 76). -/
def proofWrite (proof : ProofId) (tubeItem bankItem value : Nat) : Cmd :=
  match proof with
  | .tube t k => .set false tubeItem (16 * t.num + k.num) [value]
  | .bank k => .set true bankItem k.num [value]

/-- The SET_BANK of the ramp order or of the priorities (R115, Table 76). -/
def orderWrite : RampOrderValue → Cmd
  | .order v => .set true 0x1A 0 [v]
  | .priorities a b c d => .set true 0x1B 0 [a, b, c, d]

/-- SETTING_WRITE: the value bytes are split by the item's widths; a value of another length has none (R157, R158). -/
def execSettingWrite (p : Port) (bank : Bool) (item index : Nat) (value : List Byte) (s : State) : Host.Outcome State Fault Refusal :=
  .next (s.act fun s => s.command p (.set bank item index (settingValues item value)))

/-- SET_REGIONS (R3). -/
def execSetRegions (p : Port) (b0 b1 b2 : Nat) (s : State) : Host.Outcome State Fault Refusal :=
  .next (s.act fun s => s.command p (.set true 0x20 0 [b0, b1, b2]))

/-- LINE_CONFIGURATION_WRITE (R70). -/
def execLineConfigurationWrite (p : Port) (t : TubeId) (line : LineId) (header maximum : Nat) (s : State) : Host.Outcome State Fault Refusal :=
  .next (s.act fun s => s.command p (.set false 0x42 (16 * t.num + line.num) [header, maximum]))

/-- TMAX_WRITE (R51). -/
def execTmaxWrite (p : Port) (t : TubeId) (value : Nat) (s : State) : Host.Outcome State Fault Refusal :=
  .next (s.act fun s => s.command p (.set false 0x43 (16 * t.num) [value]))

/-- STROKE_WRITE (R117). -/
def execStrokeWrite (p : Port) (t : TubeId) (value : Nat) (s : State) : Host.Outcome State Fault Refusal :=
  .next (s.act fun s => s.command p (.set false 0x44 (16 * t.num) [value]))

/-- STANDBY_FLOW_WRITE (R82). -/
def execStandbyFlowWrite (p : Port) (t : TubeId) (value : Nat) (s : State) : Host.Outcome State Fault Refusal :=
  .next (s.act fun s => s.command p (.set false 0x45 (16 * t.num) [value]))

/-- IDLE_FLOW_WRITE (R83). -/
def execIdleFlowWrite (p : Port) (t : TubeId) (value : Nat) (s : State) : Host.Outcome State Fault Refusal :=
  .next (s.act fun s => s.command p (.set false 0x46 (16 * t.num) [value]))

/-- IDLE_PERIOD_WRITE (R150). -/
def execIdlePeriodWrite (p : Port) (t : TubeId) (value : Nat) (s : State) : Host.Outcome State Fault Refusal :=
  .next (s.act fun s => s.command p (.set false 0x49 (16 * t.num) [value]))

/-- MASK_WRITE of the activity mask or the wake mask (R154). -/
def execMaskWrite (p : Port) (t : TubeId) (wake : Bool) (kinds : Nat) (s : State) : Host.Outcome State Fault Refusal :=
  .next (s.act fun s => s.command p (.set false (if wake then 0x4B else 0x4A) (16 * t.num) [kinds]))

/-- EVENT_ENABLES_WRITE (R24). -/
def execEventEnablesWrite (p : Port) (t : TubeId) (kinds : Nat) (s : State) : Host.Outcome State Fault Refusal :=
  .next (s.act fun s => s.command p (.set false 0x41 (16 * t.num) [kinds]))

/-- PUSH_BAND_WRITE (R119). -/
def execPushBandWrite (p : Port) (t : TubeId) (value : Nat) (s : State) : Host.Outcome State Fault Refusal :=
  .next (s.act fun s => s.command p (.set false 0x4C (16 * t.num) [value]))

/-- PROOF_SOURCE_WRITE (R131). -/
def execProofSourceWrite (p : Port) (proof : ProofId) (source : Nat) (s : State) : Host.Outcome State Fault Refusal :=
  .next (s.act fun s => s.command p (proofWrite proof 0x50 0x2A source))

/-- EXH_THRESHOLD_WRITE (R133). -/
def execExhThresholdWrite (p : Port) (t : TubeId) (high : Bool) (value : Nat) (s : State) : Host.Outcome State Fault Refusal :=
  .next (s.act fun s => s.command p (.set false 0x53 (16 * t.num + bit high) [value]))

/-- COOLING_THRESHOLD_WRITE (R134). -/
def execCoolingThresholdWrite (p : Port) (value : Nat) (s : State) : Host.Outcome State Fault Refusal :=
  .next (s.act fun s => s.command p (.set true 0x2D 0 [value]))

/-- DEBOUNCE_WRITE (R135). -/
def execDebounceWrite (p : Port) (proof : ProofId) (value : Nat) (s : State) : Host.Outcome State Fault Refusal :=
  .next (s.act fun s => s.command p (proofWrite proof 0x51 0x2B value))

/-- CAPACITY_WRITE (R87, R98). -/
def execCapacityWrite (p : Port) (header : Header) (value : Nat) (s : State) : Host.Outcome State Fault Refusal :=
  .next (s.act fun s => s.command p (.set true 0x10 header.num [value]))

/-- INERT_RESERVE_WRITE (R87). -/
def execInertReserveWrite (p : Port) (value : Nat) (s : State) : Host.Outcome State Fault Refusal :=
  .next (s.act fun s => s.command p (.set true 0x11 0 [value]))

/-- ADMISSION_POLICY_WRITE (R93). -/
def execAdmissionPolicyWrite (p : Port) (value : Nat) (s : State) : Host.Outcome State Fault Refusal :=
  .next (s.act fun s => s.command p (.set true 0x14 0 [value]))

/-- BUDGET_WRITE (R100). -/
def execBudgetWrite (p : Port) (value : Nat) (s : State) : Host.Outcome State Fault Refusal :=
  .next (s.act fun s => s.command p (.set true 0x18 0 [value]))

/-- HOLD_RESERVE_WRITE (R100). -/
def execHoldReserveWrite (p : Port) (index value : Nat) (s : State) : Host.Outcome State Fault Refusal :=
  .next (s.act fun s => s.command p (.set true 0x19 index [value]))

/-- RAMP_ORDER_WRITE of the ramp order or of the four priorities (R115). -/
def execRampOrderWrite (p : Port) (value : RampOrderValue) (s : State) : Host.Outcome State Fault Refusal :=
  .next (s.act fun s => s.command p (orderWrite value))

/-- CMAX_WRITE (R114). -/
def execCmaxWrite (p : Port) (index value : Nat) (s : State) : Host.Outcome State Fault Refusal :=
  .next (s.act fun s => s.command p (.set true 0x1C index [value]))

/-- FLOW_TOLERANCE_WRITE of tol_pct or of tol_min (R136). -/
def execFlowToleranceWrite (p : Port) (min : Bool) (value : Nat) (s : State) : Host.Outcome State Fault Refusal :=
  .next (s.act fun s => s.command p (.set true 0x23 (bit min) [value]))

/-- SEAL_BAND_WRITE (R128). -/
def execSealBandWrite (p : Port) (t : TubeId) (value : Nat) (s : State) : Host.Outcome State Fault Refusal :=
  .next (s.act fun s => s.command p (.set false 0x4E (16 * t.num) [value]))

end Sys2Proof.Machine
end

