-- ==== Sys2Proof/Machine/TickFamily.lean ====
section
/-!
DEFINITION. The meanings of the two ticks of a tube (R23, R56, R121).
-/

namespace Sys2Proof.Machine

open Sys2Proof

/-- RAMP_TICK (R56). -/
def execRampTick (t : TubeId) (s : State) : Host.Outcome State Fault Refusal :=
  .next (s.act fun s => s.rampTick t none)

/-- MOTION_TICK (R121). -/
def execMotionTick (t : TubeId) (s : State) : Host.Outcome State Fault Refusal :=
  .next (s.act fun s => s.motionTick t none)

end Sys2Proof.Machine
end

