-- ==== Sys2Proof/Machine/TimeoutFamily.lean ====
section
/-!
DEFINITION. The meanings of the rows that are the end of one counter (R26, R35, R37, R49, R61, R62, R65, R79, R80, R123, R124, R152):
the tick that ends it, the ticks before it passing while the counter counts (log entry 6).
-/

namespace Sys2Proof.Machine

open Sys2Proof

/-- A condition judged after the move of the next motion tick, on a tube RUNNING in EXECUTE of a PUSH or PULL whose drive is
fresh. -/
def State.afterMove (s : State) (t : TubeId) (c : State → ActiveStep → LoaderReading → Bool) : Bool :=
  match (s.tube t).mode, (s.tube t).step, (s.tube t).action, s.freshLoader t with
  | .running .execute, some st, some a, some r =>
    if a = .push ∨ a = .pull then
      let u := s.advanceMotion t a st r
      (u.tube t).step.any fun st' => c u st' r
    else false
  | _, _, _, _ => false

/-- The counter of SOAK_COMPLETE counts on the next tick. -/
def soakCompleteCounts (s : State) (t : TubeId) : Bool :=
  s.onStep t .execute fun st => recAction st.record == some .soak && s.advancing t st

/-- The next tick that counts ends the counter of SOAK_COMPLETE. -/
def soakCompleteDue (s : State) (t : TubeId) : Bool :=
  s.onStep t .execute fun st => st.soakCount + 1 == recDuration st.record

/-- SOAK_COMPLETE (R65). -/
def execSoakComplete (t : TubeId) (s : State) : Host.Outcome State Fault Refusal :=
  .next (s.await (fun u => soakCompleteCounts u t) (fun u => soakCompleteDue u t)
    (fun u => u.rampTick t none) (fun u => u.rampTick t (some .work)) (172801))

/-- The counter of PURGE_PHASE_END counts on the next tick. -/
def purgePhaseEndCounts (s : State) (t : TubeId) : Bool :=
  s.onStep t .execute fun st => recAction st.record == some .purge && (s.tube t).flowProof.proven

/-- The next tick that counts ends the counter of PURGE_PHASE_END. -/
def purgePhaseEndDue (s : State) (t : TubeId) : Bool :=
  s.onStep t .execute fun st => st.phaseTime + 1 == st.phaseLength

/-- PURGE_PHASE_END (R79). -/
def execPurgePhaseEnd (t : TubeId) (s : State) : Host.Outcome State Fault Refusal :=
  .next (s.await (fun u => purgePhaseEndCounts u t) (fun u => purgePhaseEndDue u t)
    (fun u => u.rampTick t none) (fun u => u.rampTick t (some .work)) (601))

/-- The counter of PROOF_TIMEOUT counts on the next tick. -/
def proofTimeoutCounts (s : State) (t : TubeId) : Bool :=
  s.onStep t .prove fun _ => true

/-- The next tick that counts ends the counter of PROOF_TIMEOUT. -/
def proofTimeoutDue (s : State) (t : TubeId) : Bool :=
  s.onStep t .prove fun st => decide (s.bank.proofTime ≤ st.proofTime + 1)

/-- PROOF_TIMEOUT (R37). -/
def execProofTimeout (t : TubeId) (s : State) : Host.Outcome State Fault Refusal :=
  .next (s.await (fun u => proofTimeoutCounts u t) (fun u => proofTimeoutDue u t)
    (fun u => u.rampTick t none) (fun u => u.rampTick t none) (3601))

/-- The counter of SETTLE_TIME_EXPIRY counts on the next tick. -/
def settleTimeExpiryCounts (s : State) (t : TubeId) : Bool :=
  (s.tube t).mode.isSettling

/-- The next tick that counts ends the counter of SETTLE_TIME_EXPIRY. -/
def settleTimeExpiryDue (s : State) (t : TubeId) : Bool :=
  (s.tube t).mode.left.any fun n => decide (n ≤ 1)

/-- SETTLE_TIME_EXPIRY (R26). -/
def execSettleTimeExpiry (t : TubeId) (s : State) : Host.Outcome State Fault Refusal :=
  .next (s.await (fun u => settleTimeExpiryCounts u t) (fun u => settleTimeExpiryDue u t)
    (fun u => u.motionTick t none) (fun u => u.motionTick t none) (Config.settleTicks + 1))

/-- The counter of EMERGENCY_PURGE_END counts on the next tick. -/
def emergencyPurgeEndCounts (s : State) (t : TubeId) : Bool :=
  (s.tube t).mode.isAborting

/-- The next tick that counts ends the counter of EMERGENCY_PURGE_END. -/
def emergencyPurgeEndDue (s : State) (t : TubeId) : Bool :=
  (s.tube t).mode.left.any fun n => decide (n ≤ 1)

/-- EMERGENCY_PURGE_END (R35, R85). -/
def execEmergencyPurgeEnd (t : TubeId) (s : State) : Host.Outcome State Fault Refusal :=
  .next (s.await (fun u => emergencyPurgeEndCounts u t) (fun u => emergencyPurgeEndDue u t)
    (fun u => u.rampTick t none) (fun u => u.rampTick t none) (3601))

/-- The counter of IDLE_TIMER_EXPIRY counts on the next tick. -/
def idleTimerExpiryCounts (s : State) (t : TubeId) : Bool :=
  (s.tube t).mode.isIdle && (s.tube t).mode.left.isSome

/-- The next tick that counts ends the counter of IDLE_TIMER_EXPIRY. -/
def idleTimerExpiryDue (s : State) (t : TubeId) : Bool :=
  (s.tube t).mode.left.any fun n => decide (n ≤ 1)

/-- IDLE_TIMER_EXPIRY (R152). -/
def execIdleTimerExpiry (t : TubeId) (s : State) : Host.Outcome State Fault Refusal :=
  .next (s.await (fun u => idleTimerExpiryCounts u t) (fun u => idleTimerExpiryDue u t)
    (fun u => u.rampTick t none) (fun u => u.rampTick t none) (86401))

/-- The counter of SYNC_TIMEOUT counts on the next tick. -/
def syncTimeoutCounts (s : State) (t : TubeId) : Bool :=
  s.onStep t .execute fun st => recAction st.record == some .sync && s.syncWaiting t st && decide (0 < recWaitLimit st.record)

/-- The next tick that counts ends the counter of SYNC_TIMEOUT. -/
def syncTimeoutDue (s : State) (t : TubeId) : Bool :=
  s.onStep t .execute fun st => decide (recWaitLimit st.record ≤ st.syncWait + 1)

/-- SYNC_TIMEOUT (R49). -/
def execSyncTimeout (t : TubeId) (s : State) : Host.Outcome State Fault Refusal :=
  .next (s.await (fun u => syncTimeoutCounts u t) (fun u => syncTimeoutDue u t)
    (fun u => u.rampTick t none) (fun u => u.rampTick t (some .work)) (65536))

/-- The counter of BAND_TIMEOUT counts on the next tick. -/
def bandTimeoutCounts (s : State) (t : TubeId) : Bool :=
  s.onStep t .execute fun st => (recAction st.record == some .ramp || recAction st.record == some .soak) && s.outOfBand t st &&
    decide (0 < (s.tube t).settings.bandLimit)

/-- The next tick that counts ends the counter of BAND_TIMEOUT. -/
def bandTimeoutDue (s : State) (t : TubeId) : Bool :=
  s.onStep t .execute fun st => s.bandExpired t st

/-- BAND_TIMEOUT (R61). -/
def execBandTimeout (t : TubeId) (s : State) : Host.Outcome State Fault Refusal :=
  .next (s.await (fun u => bandTimeoutCounts u t) (fun u => bandTimeoutDue u t)
    (fun u => u.rampTick t none) (fun u => u.rampTick t (some .work)) (65537))

/-- The counter of ZONE_STALE counts on the next tick. -/
def zoneStaleCounts (s : State) (t : TubeId) : Bool :=
  s.onStep t .execute fun _ => s.anyZoneStale t

/-- The next tick that counts ends the counter of ZONE_STALE. -/
def zoneStaleDue (s : State) (t : TubeId) : Bool :=
  s.onStep t .execute fun st => decide (s.bank.zoneStaleLimit < st.zoneStale + 1)

/-- ZONE_STALE (R62). -/
def execZoneStale (t : TubeId) (s : State) : Host.Outcome State Fault Refusal :=
  .next (s.await (fun u => zoneStaleCounts u t) (fun u => zoneStaleDue u t)
    (fun u => u.rampTick t none) (fun u => u.rampTick t (some .zone)) (601))

/-- The counter of GAS_LOST counts on the next tick. -/
def gasLostCounts (s : State) (t : TubeId) : Bool :=
  s.onStep t .execute fun _ => !(s.tube t).flowProof.proven && (s.tube t).anyCommanded

/-- The next tick that counts ends the counter of GAS_LOST. -/
def gasLostDue (s : State) (t : TubeId) : Bool :=
  s.onStep t .execute fun st => decide (s.bank.flowLossTime < st.flowLoss + 1)

/-- GAS_LOST (R80). -/
def execGasLost (t : TubeId) (s : State) : Host.Outcome State Fault Refusal :=
  .next (s.await (fun u => gasLostCounts u t) (fun u => gasLostDue u t)
    (fun u => u.rampTick t none) (fun u => u.rampTick t (some .gas)) (61))

/-- The counter of SETTLE_STALL counts on the next tick. -/
def settleStallCounts (s : State) (t : TubeId) : Bool :=
  s.afterMove t fun u st r => st.atTarget && !u.inPosition st r

/-- The next tick that counts ends the counter of SETTLE_STALL. -/
def settleStallDue (s : State) (t : TubeId) : Bool :=
  s.afterMove t fun u st _ => decide (10 * u.bank.settleTime ≤ st.settleCount + 1)

/-- SETTLE_STALL (R123). -/
def execSettleStall (t : TubeId) (s : State) : Host.Outcome State Fault Refusal :=
  .next (s.await (fun u => settleStallCounts u t) (fun u => settleStallDue u t)
    (fun u => u.motionTick t none) (fun u => u.motionTick t (some .arrival)) (601))

/-- The counter of FOLLOW_STALL counts on the next tick. -/
def followStallCounts (s : State) (t : TubeId) : Bool :=
  s.afterMove t fun u _ r => u.behind t r

/-- The next tick that counts ends the counter of FOLLOW_STALL. -/
def followStallDue (s : State) (t : TubeId) : Bool :=
  s.afterMove t fun u st _ => decide (u.bank.stallTime ≤ st.followCount + 1)

/-- FOLLOW_STALL (R124). -/
def execFollowStall (t : TubeId) (s : State) : Host.Outcome State Fault Refusal :=
  .next (s.await (fun u => followStallCounts u t) (fun u => followStallDue u t)
    (fun u => u.motionTick t none) (fun u => u.motionTick t (some .follow)) (101))

end Sys2Proof.Machine
end

