-- ==== Sys2Proof/Machine/Dispatch.lean ====
section
/-!
DEFINITION. The dispatch: one arm for each row of spec/opcode_table.json, each a direct call of its meaning.
-/

namespace Sys2Proof.Machine

open Sys2Proof

/-- The effect of a command on everything but the queue of waiting commands. -/
def exec (i : Instr) (s : State) : Host.Outcome State Fault Refusal :=
  match i with
  | .powerOn => Sys2Proof.Machine.execPowerOn s
  | .resetPin => Sys2Proof.Machine.execResetPin s
  | .frameReceived p bytes => Sys2Proof.Machine.execFrameReceived p bytes s
  | .interByteTimeout p => Sys2Proof.Machine.execInterByteTimeout p s
  | .commandTaken p => Sys2Proof.Machine.execCommandTaken p s
  | .transmitterFree p => Sys2Proof.Machine.execTransmitterFree p s
  | .read p item index => Sys2Proof.Machine.execRead p item index s
  | .readStep p index => Sys2Proof.Machine.execReadStep p index s
  | .writeStep p index record => Sys2Proof.Machine.execWriteStep p index record s
  | .start p entry => Sys2Proof.Machine.execStart p entry s
  | .hold p => Sys2Proof.Machine.execHold p s
  | .resume p => Sys2Proof.Machine.execResume p s
  | .skip p => Sys2Proof.Machine.execSkip p s
  | .abort p => Sys2Proof.Machine.execAbort p s
  | .serviceIn p tube => Sys2Proof.Machine.execServiceIn p tube s
  | .serviceOut p tube => Sys2Proof.Machine.execServiceOut p tube s
  | .clearEvents p kinds => Sys2Proof.Machine.execClearEvents p kinds s
  | .clearMark p mark => Sys2Proof.Machine.execClearMark p mark s
  | .clearError p => Sys2Proof.Machine.execClearError p s
  | .clearBankEvents p kinds => Sys2Proof.Machine.execClearBankEvents p kinds s
  | .bankHold p => Sys2Proof.Machine.execBankHold p s
  | .bankRelease p => Sys2Proof.Machine.execBankRelease p s
  | .bankStop p => Sys2Proof.Machine.execBankStop p s
  | .bankReset p => Sys2Proof.Machine.execBankReset p s
  | .settingWrite p bank item index value => Sys2Proof.Machine.execSettingWrite p bank item index value s
  | .setRegions p b0 b1 b2 => Sys2Proof.Machine.execSetRegions p b0 b1 b2 s
  | .lineConfigurationWrite p t line header maximum => Sys2Proof.Machine.execLineConfigurationWrite p t line header maximum s
  | .tmaxWrite p t value => Sys2Proof.Machine.execTmaxWrite p t value s
  | .strokeWrite p t value => Sys2Proof.Machine.execStrokeWrite p t value s
  | .standbyFlowWrite p t value => Sys2Proof.Machine.execStandbyFlowWrite p t value s
  | .idleFlowWrite p t value => Sys2Proof.Machine.execIdleFlowWrite p t value s
  | .idlePeriodWrite p t value => Sys2Proof.Machine.execIdlePeriodWrite p t value s
  | .maskWrite p t wake kinds => Sys2Proof.Machine.execMaskWrite p t wake kinds s
  | .eventEnablesWrite p t kinds => Sys2Proof.Machine.execEventEnablesWrite p t kinds s
  | .pushBandWrite p t value => Sys2Proof.Machine.execPushBandWrite p t value s
  | .proofSourceWrite p proof source => Sys2Proof.Machine.execProofSourceWrite p proof source s
  | .exhThresholdWrite p t high value => Sys2Proof.Machine.execExhThresholdWrite p t high value s
  | .coolingThresholdWrite p value => Sys2Proof.Machine.execCoolingThresholdWrite p value s
  | .debounceWrite p proof value => Sys2Proof.Machine.execDebounceWrite p proof value s
  | .capacityWrite p header value => Sys2Proof.Machine.execCapacityWrite p header value s
  | .inertReserveWrite p value => Sys2Proof.Machine.execInertReserveWrite p value s
  | .admissionPolicyWrite p value => Sys2Proof.Machine.execAdmissionPolicyWrite p value s
  | .budgetWrite p value => Sys2Proof.Machine.execBudgetWrite p value s
  | .holdReserveWrite p index value => Sys2Proof.Machine.execHoldReserveWrite p index value s
  | .rampOrderWrite p value => Sys2Proof.Machine.execRampOrderWrite p value s
  | .cmaxWrite p index value => Sys2Proof.Machine.execCmaxWrite p index value s
  | .rampTick t => Sys2Proof.Machine.execRampTick t s
  | .motionTick t => Sys2Proof.Machine.execMotionTick t s
  | .soakComplete t => Sys2Proof.Machine.execSoakComplete t s
  | .purgePhaseEnd t => Sys2Proof.Machine.execPurgePhaseEnd t s
  | .proofTimeout t => Sys2Proof.Machine.execProofTimeout t s
  | .settleTimeExpiry t => Sys2Proof.Machine.execSettleTimeExpiry t s
  | .emergencyPurgeEnd t => Sys2Proof.Machine.execEmergencyPurgeEnd t s
  | .idleTimerExpiry t => Sys2Proof.Machine.execIdleTimerExpiry t s
  | .syncTimeout t => Sys2Proof.Machine.execSyncTimeout t s
  | .bandTimeout t => Sys2Proof.Machine.execBandTimeout t s
  | .zoneStale t => Sys2Proof.Machine.execZoneStale t s
  | .gasLost t => Sys2Proof.Machine.execGasLost t s
  | .settleStall t => Sys2Proof.Machine.execSettleStall t s
  | .followStall t => Sys2Proof.Machine.execFollowStall t s
  | .proofEdge proof => Sys2Proof.Machine.execProofEdge proof s
  | .flowSettleEnd t => Sys2Proof.Machine.execFlowSettleEnd t s
  | .pollDue n => Sys2Proof.Machine.execPollDue n s
  | .exchangeTaken => Sys2Proof.Machine.execExchangeTaken s
  | .goodReply n reading => Sys2Proof.Machine.execGoodReply n reading s
  | .replyTimeout n => Sys2Proof.Machine.execReplyTimeout n s
  | .syncByteReceived p => Sys2Proof.Machine.execSyncByteReceived p s
  | .lenAbove250 p len => Sys2Proof.Machine.execLenAbove250 p len s
  | .flowToleranceWrite p min value => Sys2Proof.Machine.execFlowToleranceWrite p min value s
  | .sealBandWrite p t value => Sys2Proof.Machine.execSealBandWrite p t value s

end Sys2Proof.Machine
end

