-- ==== Sys2Proof/Machine/Step.lean ====
section
/-!
DEFINITION. The step of the block: the command at the front of its queue, or, with no command waiting, one 0.1 s step of
the Condition Monitor's counts (R135, R137, log entry 4).
-/

namespace Sys2Proof.Machine

open Sys2Proof

/-- What the block does with no command waiting: one 0.1 s step of the debounce counts and flow settle times (R135,
R137), the one time-driven effect that no row of the table commands (log entry 4). -/
def State.idleStep (s : State) : State := s.act State.monitorStep

/-- One step: the command at the front of the queue runs on the state with the queue's rest. -/
def step (s : State) : Host.Outcome State Fault Refusal :=
  match s.pending with
  | [] => .next s.idleStep
  | c :: rest => exec c { s with pending := rest }

/-- The state with the command that a word spells put at the front of the queue; no row of the table has bits, so no
word spells one (log entry 19). -/
def State.withFetchWord (s : State) (nbits w : Nat) : State :=
  match decodeTableWord nbits w with
  | some c => { s with pending := c :: s.pending }
  | none => s

end Sys2Proof.Machine
end

