-- ==== Sys2Proof/WellFormed.lean ====
section
/-!
DEFINITION. Which commands a master, a node or a byte stream can give: numbers that fit the bytes of their fields (Tables
70 to 72, 76) and payloads that fit a frame.  Ill-formed commands still have a meaning; statements about what can arrive
assume well-formed ones.
-/

namespace Sys2Proof

/-- The number fits one byte. -/
def fitsByte (v : Nat) : Bool := decide (v < 256)

/-- The number fits two bytes. -/
def fitsWord (v : Nat) : Bool := decide (v < 65536)

/-- The number fits four bytes. -/
def fitsLong (v : Nat) : Bool := decide (v < 4294967296)

/-- A record has the 48 bytes of Table 72. -/
def fitsRecord (r : List Byte) : Bool := r.length == Config.recordBytes

/-- A value of a SET fits the payload of a frame beside its item and index bytes. -/
def fitsValue (v : List Byte) : Bool := decide (v.length + 2 ≤ Config.maxLen)

/-- The tube byte of a service command, where there is one. -/
def fitsTubeByte : Option Nat → Bool
  | none => true
  | some v => fitsByte v

/-- Numbers of a Reading message fit two bytes each.  DESIGN CHOICE: the spec lays out no bytes of the field link's messages,
and the model takes each number as unsigned and of two bytes (R146, log entry 37). -/
def WireReading.fits : WireReading → Bool
  | .zone temperature _ => fitsWord temperature
  | .flow m => LineId.all.all fun l => fitsWord (m.get l)
  | .loader actual _ => fitsWord actual
  | .bank exhaust cooling _ _ _ _ _ => (TubeId.all.all fun t => fitsWord (exhaust.get t)) && fitsWord cooling

/-- The reading is of the node's kind (Table 64). -/
def WireReading.ofKind : WireReading → NodeId → Bool
  | .zone _ _, .zone _ _ => true
  | .flow _, .flow _ => true
  | .loader _ _, .loader _ => true
  | .bank _ _ _ _ _ _ _, .bank => true
  | _, _ => false

/-- The value of a ramp order write fits its bytes. -/
def RampOrderValue.fits : RampOrderValue → Bool
  | .order v => fitsByte v
  | .priorities a b c d => fitsByte a && fitsByte b && fitsByte c && fitsByte d

/-- The command is one that can arrive. -/
def Instr.wf : Instr → Bool
  | .read _ item index => fitsByte item && fitsByte index
  | .readStep _ index => fitsWord index
  | .writeStep _ index record => fitsWord index && fitsRecord record
  | .start _ entry => fitsWord entry
  | .serviceIn _ tube => fitsTubeByte tube
  | .serviceOut _ tube => fitsTubeByte tube
  | .clearEvents _ kinds => fitsWord kinds
  | .clearMark _ mark => fitsByte mark
  | .clearBankEvents _ kinds => fitsByte kinds
  | .settingWrite _ _ item index value => fitsByte item && fitsByte index && fitsValue value
  | .setRegions _ b0 b1 b2 => fitsWord b0 && fitsWord b1 && fitsWord b2
  | .lineConfigurationWrite _ _ _ header maximum => fitsByte header && fitsWord maximum
  | .tmaxWrite _ _ v => fitsWord v
  | .strokeWrite _ _ v => fitsWord v
  | .standbyFlowWrite _ _ v => fitsWord v
  | .idleFlowWrite _ _ v => fitsWord v
  | .idlePeriodWrite _ _ v => fitsWord v
  | .maskWrite _ _ _ kinds => fitsByte kinds
  | .eventEnablesWrite _ _ kinds => fitsWord kinds
  | .pushBandWrite _ _ v => fitsWord v
  | .proofSourceWrite _ _ source => fitsByte source
  | .exhThresholdWrite _ _ _ v => fitsWord v
  | .coolingThresholdWrite _ v => fitsWord v
  | .debounceWrite _ _ v => fitsByte v
  | .capacityWrite _ _ v => fitsLong v
  | .inertReserveWrite _ v => fitsLong v
  | .admissionPolicyWrite _ v => fitsByte v
  | .budgetWrite _ v => fitsWord v
  | .holdReserveWrite _ index v => fitsByte index && fitsWord v
  | .rampOrderWrite _ v => v.fits
  | .cmaxWrite _ index v => fitsByte index && fitsWord v
  | .goodReply n r => r.fits && r.ofKind n
  | .lenAbove250 _ len => decide (Config.maxLen < len.toNat)
  | .flowToleranceWrite _ _ v => fitsWord v
  | .sealBandWrite _ _ v => fitsWord v
  | .powerOn | .resetPin | .frameReceived _ _ | .interByteTimeout _ | .commandTaken _ | .transmitterFree _ | .hold _
  | .resume _ | .skip _ | .abort _ | .clearError _ | .bankHold _ | .bankRelease _ | .bankStop _ | .bankReset _
  | .rampTick _ | .motionTick _ | .soakComplete _ | .purgePhaseEnd _ | .proofTimeout _ | .settleTimeExpiry _
  | .emergencyPurgeEnd _ | .idleTimerExpiry _ | .syncTimeout _ | .bandTimeout _ | .zoneStale _ | .gasLost _
  | .settleStall _ | .followStall _ | .proofEdge _ | .flowSettleEnd _ | .pollDue _ | .exchangeTaken
  | .replyTimeout _ | .syncByteReceived _ => true

end Sys2Proof
end

