-- ==== Sys2Proof/Safety.lean ====
section
/-!
DEFINITION. What claims about the block are stated in: the invariants that a safe run keeps, and the frames, as functions
that erase what a command may change, so that two states that agree on everything else are equal after erasing.
-/

namespace Sys2Proof.Machine

open Sys2Proof

/-! ### Invariants -/

/-- The Profile Memory is in its canonical form and lists nothing past its 1024 records (R1). -/
def State.memoryInv (s : State) : Prop :=
  memWf s.profile = true ∧ ∀ c ∈ s.profile, c.1 < Config.recordBytes * Config.descriptors

/-- The region boundaries are non-decreasing and within the memory (Table 5, R2). -/
def State.regionInv (s : State) : Prop := s.b0 ≤ s.b1 ∧ s.b1 ≤ s.b2 ∧ s.b2 ≤ Config.descriptors

/-- The grants of every header are within its capacity (R87), with what the gas tables keep for it: line 0 is INERT
(R70), a tube out of service has no gas and no entry (R27, R71), an entry's amounts are its flows' (R72), and a tube has
at most one entry in the gas request queue (R89). -/
def State.headerInv (s : State) : Prop :=
  (∀ h, s.grantSum h ≤ s.gas.capacity.get h) ∧
  (∀ t, s.lineHeader t .l0 = some .inert) ∧
  (∀ t, (s.tube t).mode = .outOfService → (s.tube t).gas = TubeGas.zero ∧ s.hasGasEntry t = false) ∧
  (∀ e ∈ s.gas.queue, e.amount = s.gasAmounts e.tube e.flows) ∧
  (s.gas.queue.map GasEntry.tube).Nodup

/-- A tube that may execute its step: RUNNING, or HELD for a reason other than INVALID. -/
def Mode.checked : Mode → Bool
  | .running _ => true
  | .held .invalid _ => false
  | .held _ _ => true
  | _ => false

/-- The centre setpoint lies within 10 × Tmax and P within the stroke (R51, R116), Tmax and the stroke within their
ranges, and the target of a checked step within the same bound (R19, checks 5 and 6). -/
def State.travelInv (s : State) : Prop :=
  ∀ t, (s.tube t).setpoint ≤ 10 * (s.tube t).settings.tmax ∧ (s.tube t).position ≤ (s.tube t).settings.stroke ∧
    (s.tube t).settings.tmax ≤ 13000 ∧ (s.tube t).settings.stroke ≤ 30000 ∧
    ∀ st, (s.tube t).step = some st → (s.tube t).mode.checked = true →
      (recAction st.record = some .ramp → recTarget st.record ≤ (s.tube t).settings.tmax) ∧
      (recAction st.record = some .push ∨ recAction st.record = some .pull →
        recTarget st.record ≤ (s.tube t).settings.stroke)

/-- What a tube holds in its state (R22, Table 16): an active step record in RUNNING, HELD and ABORTING alone; no gas and
no gas request out of service and in SETTLING; a ramp grant or request in RUNNING and HELD alone; the emergency mark in
ABORTING alone, without a gas request, and then line 0's grant as its command and nothing on any other line (R84). -/
def State.modeInv (s : State) : Prop :=
  ∀ t,
    (s.tube t).step.isSome = ((s.tube t).mode.isRun || (s.tube t).mode.isAborting) ∧
    (((s.tube t).mode.inService = false ∨ (s.tube t).mode.isSettling = true) →
      (s.tube t).gas = TubeGas.zero ∧ s.hasGasEntry t = false) ∧
    ((s.hasRampGrant t = true ∨ s.hasRampRequest t = true) → (s.tube t).mode.isRun = true) ∧
    (s.tube t).gas.emergency = (s.tube t).mode.isAborting ∧
    ((s.tube t).mode.isAborting = true →
      s.hasGasEntry t = false ∧ (s.tube t).gas.command = (s.tube t).gas.grant ∧
        ∀ l, l ≠ .l0 → (s.tube t).gas.grant.get l = 0)

/-- While a ramp grant is held the commitment is within the budget (R109); k is at most 1000 and every zone ceiling at
most its configured maximum (R111, R113). -/
def State.powerInv (s : State) : Prop :=
  (s.power.grants = [] ∨ s.commitment ≤ s.power.budget) ∧ s.power.throttle ≤ 1000 ∧
  ∀ t z, (s.power.ceiling.get t).get z ≤ (s.power.cmax.get t).get z

/-- The four priorities are 0, 1, 2 and 3 in some order (R115). -/
def State.priorityInv (s : State) : Prop :=
  [s.power.priority.t0, s.power.priority.t1, s.power.priority.t2, s.power.priority.t3].Perm [0, 1, 2, 3]

/-- The index of a RUNNING or HELD tube's active step lies in the tube's own region (R22), and so it does while ABORTING keeps
the copy; the completion fields of a checked step hold for that index (R19, checks 21 to 25). -/
def State.recipeInv (s : State) : Prop :=
  ∀ t st, (s.tube t).step = some st →
    (((s.tube t).mode.isRun || (s.tube t).mode.isAborting) = true → s.inRegion t st.index = true) ∧
    ((s.tube t).mode.checked = true → ∀ c ∈ completionChecks s t st.index st.record, c.2 = true)

/-- The Mark Table's form: no tube stands twice on a waiter list, so none holds more than four entries, and a mark has a
setter exactly while it is set (Table 24). -/
def State.markInv (s : State) : Prop :=
  ∀ m, ((s.mark m).waiters.map Waiter.tube).Nodup ∧ (s.mark m).setter.isSome = (s.mark m).set

/-- What the line commands stay within (Table 16, R40, R76, R78, R79): no command above its grant; outside RUNNING and HELD no
grant on a line other than line 0, nor a request for one; and a PURGE, from its grant on, with both phase flows within line
0's grant. -/
def State.gasInv (s : State) : Prop :=
  (∀ t l, (s.tube t).gas.command.get l ≤ (s.tube t).gas.grant.get l) ∧
  (∀ t, (s.tube t).mode.isRun = false → ∀ l, l ≠ .l0 → (s.tube t).gas.grant.get l = 0) ∧
  (∀ e ∈ s.gas.queue, (s.tube e.tube).mode.isRun = false → ∀ l, l ≠ .l0 → e.flows.get l = 0) ∧
  ∀ t st, (s.tube t).step = some st → (s.tube t).mode.checked = true → recAction st.record = some .purge →
    recHasGas st.record = true ∧ st.purgeHigh ≤ recFlow st.record .l0 ∧ st.purgeLow ≤ recFlow st.record .l0 ∧
    (s.tube t).mode ≠ .held .fault .acquire ∧
    ((s.tube t).mode.phase? = some .notStarted ∨
      ((s.tube t).mode.phase? = some .acquire ∧
        ∃ e ∈ s.gas.queue, e.tube = t ∧ e.flows.get .l0 = recFlow st.record .l0) ∨
      (s.hasGasEntry t = false ∧ st.purgeHigh ≤ (s.tube t).gas.grant.get .l0 ∧
        st.purgeLow ≤ (s.tube t).gas.grant.get .l0))

/-- The bounds of the port engines and of the field link's counts (R147, R155, R156). -/
def State.portInv (s : State) : Prop :=
  (∀ p, (s.port p).queue.length ≤ Config.queueFrames ∧ (s.port p).rejectFrame ≤ 255 ∧
    ∀ c n, (s.port p).rejectOverrun = some (c, n) → n ≤ 255) ∧
  ∀ n, (s.nodeStatus n).misses ≤ Config.staleMisses

/-! ### Frames -/

/-- The state with one tube and the ports erased: equal erasures say that everything else is the same. -/
def State.eraseTube (s : State) (t : TubeId) : State :=
  { s with tubes := s.tubes.set t Tube.powerOn, ports := State.reset.ports }

/-- The state with the ports erased. -/
def State.erasePorts (s : State) : State := { s with ports := State.reset.ports }

/-- A port engine with its note-pending flag erased. -/
def PortEngine.quiet (e : PortEngine) : PortEngine := { e with notePending := false }

/-- Exactly one reply was made, on port `p`; every engine is otherwise unchanged but for its note-pending flag (R157). -/
def Replied (p : Port) (f : Frame) (s u : State) : Prop :=
  ∀ q, (u.port q).quiet =
    { (s.port q).quiet with replies := if q = p then (s.port q).replies ++ [f] else (s.port q).replies }

/-- A proof's settings alone. -/
def Proof.kept (p : Proof) : Proof := { p with raw := false, proven := false, count := 0 }

/-- What the acts of the sequencers and allocators never change of a tube: its settings. -/
def Tube.kept (x : Tube) : Tube :=
  { Tube.powerOn with
    settings := x.settings
    exhProof := x.exhProof.kept
    sealProof := x.sealProof.kept
    otcProof := x.otcProof.kept
    flowProof := x.flowProof.kept }

/-- The Power Allocator's settings alone. -/
def PowerAllocator.kept (p : PowerAllocator) : PowerAllocator :=
  { p with
    requests := [], grants := [], pointer := .t3, throttle := 1000, ceiling := PowerAllocator.powerOn.ceiling }

/-- What the acts that follow on a command never change: the Profile Memory, the region boundaries, every setting, the
field link, the bank hold flag, the ports but for their note-pending flags, and the queue of commands. -/
def State.kept (s : State) : State :=
  { s with
    tubes := PerTube.of fun t => (s.tubes.get t).kept
    marks := State.reset.marks
    gas := { s.gas with queue := [] }
    power := s.power.kept
    monitor := { s.monitor with
      latch := false, estopProof := s.monitor.estopProof.kept, coolingProof := s.monitor.coolingProof.kept }
    ports := { station := PerTube.of fun t => (s.ports.station.get t).quiet, facility := s.ports.facility.quiet }
    bankError := none
    bankEvents := 0
    jobs := []
    free := 0 }

/-- The outcome of a step fault with fault_action HOLD: HELD (FAULT) in its phase, both records written, FAULT and HELD
raised where enabled (R42). -/
def FaultHeld (t : TubeId) (k : Kind) (s u : State) : Prop :=
  ∃ ph st, (s.tube t).mode = .running ph ∧ (s.tube t).step = some st ∧
    (u.tube t).mode = .held .fault ph ∧
    (u.tube t).lastFault = some { kind := k, index := st.index, field := none } ∧
    u.bankError = some { kind := k, tube := some t, index := some st.index, field := none } ∧
    (u.tube t).events = (s.tube t).events ||| ((Event.fault.bit ||| Event.held.bit) &&& (s.tube t).settings.enables) ∧
    u.bankEvents = s.bankEvents ||| BankEvent.errorRecorded.bit

/-- The outcome of a step fault with fault_action ABORT: both records written, FAULT raised where enabled, ABORTING with the
emergency grant, every line but line 0 at 0, no ramp grant, S kept (R42, R84). -/
def FaultAborted (t : TubeId) (k : Kind) (s u : State) : Prop :=
  ∃ st, (s.tube t).step = some st ∧
    (u.tube t).mode = .aborting s.bank.emergencyTime ∧ (u.tube t).step.map ActiveStep.index = some st.index ∧
    (u.tube t).lastFault = some { kind := k, index := st.index, field := none } ∧
    u.bankError = some { kind := k, tube := some t, index := some st.index, field := none } ∧
    ((s.tube t).settings.enables.getLsbD 2 = true → (u.tube t).events.getLsbD 2 = true) ∧
    (u.tube t).gas.emergency = true ∧ (∀ l, l ≠ .l0 → (u.tube t).gas.command.get l = 0) ∧
    u.hasRampGrant t = false ∧ (u.tube t).setpoint = (s.tube t).setpoint

/-- The command gives a next state with exactly one reply, the frame `f` on port `p`, in which all but the ports is as in
`v`. -/
def Answered (i : Instr) (p : Port) (f : Frame) (s v : State) : Prop :=
  ∃ u, exec i s = .next u ∧ u.erasePorts = v.erasePorts ∧ Replied p f s u

/-- A tube that PORT_COMMAND activity cannot act on: a station's tube neither IDLE with a running timer nor IDLE_PURGE, or
the facility port (R151). -/
def State.quietPort (s : State) : Port → Prop
  | .station t => s.activeTube t = false
  | .facility => True

/-- What activity may raise on its tube: WAKE, and GAS_WAIT of the standby request that a wake makes (R90, R153). -/
def wakeEvents : BitVec 15 := Event.wake.bit ||| Event.gasWait.bit

/-- No FLOW edge follows at once on a change of flows, no queued gas request of another tube can be granted by a pass, and
no act of an earlier step is still to run: what is then stated of one tube is all that happens. -/
def State.calm (s : State) (t : TubeId) : Prop :=
  s.jobs = [] ∧ s.monitor.flowSettleTime ≠ 0 ∧ ∀ e ∈ s.gas.queue, e.tube = t

/-- The command is accepted from `p` with the frame `f`, and what it does is `v`.  Where the port's tube is open to activity, that
tube may have its timer loaded or wake, and the marks, the bank's record and events, every other tube and, but for what a
wake raises, the tube's own event requests are still as in `v` (R151, R153). -/
def Taken (i : Instr) (p : Port) (f : Frame) (s v : State) : Prop :=
  (s.quietPort p → Answered i p f s v) ∧
  ∀ t, p = .station t → ∃ u, exec i s = .next u ∧ Replied p f s u ∧
    (((s.tube t).mode = .idlePurge → (s.tube t).settings.wakeMask.getLsbD 0 = true → s.calm t) →
      u.marks = v.marks ∧ u.bankError = v.bankError ∧ u.bankEvents = v.bankEvents ∧ (∀ y, y ≠ t → u.tube y = v.tube y) ∧
      (u.tube t).events &&& ~~~wakeEvents = (v.tube t).events &&& ~~~wakeEvents)

/-- The row gives a next state in which the step of `t` has failed with this kind, by the tube's fault_action (R42); `v` is
the state at the fault, where the same tick raised an event before it. -/
def EndsInFault (i : Instr) (t : TubeId) (k : Kind) (s v : State) : Prop :=
  ∃ u, exec i s = .next u ∧
    ((s.tube t).settings.faultAction = .hold → FaultHeld t k v u) ∧
    ((s.tube t).settings.faultAction = .abort → s.calm t → FaultAborted t k v u)

/-! ### Outcomes of a completion and of a gas request -/

/-- The loop of a completing step sends it back: passes remain once the step owns the register (R41). -/
def Tube.loopsBack (x : Tube) (st : ActiveStep) : Bool :=
  recLoopMark st.record == 1 &&
    decide (0 < if x.loopOwner = some st.index then x.loopLeft else recPasses st.record - 1)

/-- The index that a completing step links to: loop_to while its loop sends it back, else next, else its own index + 1 (R17,
R41). -/
def Tube.linkIndex (x : Tube) (st : ActiveStep) : Nat :=
  if x.loopsBack st then recLoopTo st.record
  else if recNextMark st.record = 1 then recNext st.record else st.index + 1

/-- The tube after a completion: the loop register by R41, STEP_DONE where notify asks it, with other events, and the step
that the link reached in this state (R17, R24). -/
def Tube.linked (x : Tube) (st next : ActiveStep) (m : Mode) (events : BitVec 15) : Tube :=
  let left := if x.loopOwner = some st.index then x.loopLeft else recPasses st.record - 1
  { x with
    mode := m
    step := some next
    loopOwner := if recLoopMark st.record = 1 then (if x.loopsBack st then some st.index else none) else x.loopOwner
    loopLeft := if recLoopMark st.record = 1 then left - 1 else x.loopLeft
    events := x.events |||
      (((if recNotify st.record = 1 then Event.stepDone.bit else 0) ||| events) &&& x.settings.enables) }

/-- The completion fields of the step hold, so that it can complete (R33). -/
def State.completes (s : State) (t : TubeId) (st : ActiveStep) : Prop :=
  ∀ c ∈ completionChecks s t st.index st.record, c.2 = true

/-- A mark_set that is present can be served at once: no other tube waits on the mark, and no tube is open to MARK_SET
activity (R47, R151). -/
def State.marksQuietly (s : State) (t : TubeId) (st : ActiveStep) : Prop :=
  recMarkSetMark st.record = 0 ∨
    recMarkSetMark st.record = 1 ∧ (∀ x, s.activeTube x = false) ∧
      ∃ m, m.num = recMarkSet st.record ∧ ∀ w ∈ (s.mark m).waiters, w.tube = t

/-- The Mark Table after a completion of `t` that nobody waits for: `t` on no list, and the mark named by mark_set, where it
is present, set by `t` (R32, R47). -/
def State.markedBy (s : State) (t : TubeId) (st : ActiveStep) : State :=
  { s with marks := PerMark.of fun m =>
      let k := { s.mark m with waiters := (s.mark m).waiters.filter fun w => w.tube != t }
      if recMarkSetMark st.record = 1 ∧ m.num = recMarkSet st.record then
        { k with set := true, setter := some t }
      else k }

/-- A gas request of `t` for these line flows is granted at once while no other request waits: it is a decrease, or it fits on
every header (R90, R91). -/
def State.grantsAtOnce (s : State) (t : TubeId) (flows : PerLine Nat) : Prop :=
  (∀ h, s.onHeader t flows h ≤ s.normalGrant t h) ∨
    ∀ h, s.grantSum h - s.normalGrant t h + s.onHeader t flows h ≤ s.headerLimit h

/-- The request of `t` for line 0 alone at a flow, made on `v` with no other tube's request waiting, as `u` shows it: granted at
once, the flow is line 0's grant and command, every other line is at 0, and no request waits; otherwise the tube keeps its gas, and its
request alone waits, with GAS_WAIT raised where enabled (R73, R82, R83, R90, R95). -/
def Line0Requested (t : TubeId) (flow : Nat) (v u : State) : Prop :=
  let flows : PerLine Nat := { zeroLines with l0 := min flow (v.lineMaximum t .l0) }
  let e : GasEntry := { tube := t, amount := PerHeader.of (v.onHeader t flows), flows := flows, oversize := false }
  (v.grantsAtOnce t flows →
    (u.tube t).gas = { grant := flows, command := flows, emergency := false } ∧ u.gas.queue = []) ∧
  (¬v.grantsAtOnce t flows →
    (u.tube t).gas = (v.tube t).gas ∧ u.gas.queue = [{ e with oversize := v.gasOversize e }] ∧
      ((v.tube t).settings.enables.getLsbD 7 = true → (u.tube t).events.getLsbD 7 = true))

/-- A run of `t` has ended by END (R40): IDLE with its timer loaded, no step, the loop register empty, RUN_END, and STEP_DONE where
notify asks it, raised where enabled, no grant or command on a line other than line 0, no ramp grant or request, S and the
offsets kept. -/
def RunEnded (t : TubeId) (st : ActiveStep) (s u : State) : Prop :=
  let x := s.tube t
  (u.tube t).mode = .idle (if x.settings.idlePeriod = 0 then none else some (60 * x.settings.idlePeriod)) ∧
  (u.tube t).step = none ∧ (u.tube t).loopOwner = none ∧ (u.tube t).loopLeft = 0 ∧
  (x.settings.enables.getLsbD 1 = true → (u.tube t).events.getLsbD 1 = true) ∧
  (recNotify st.record = 1 → x.settings.enables.getLsbD 0 = true → (u.tube t).events.getLsbD 0 = true) ∧
  (∀ l, l ≠ .l0 → (u.tube t).gas.grant.get l = 0 ∧ (u.tube t).gas.command.get l = 0) ∧
  u.hasRampGrant t = false ∧ u.hasRampRequest t = false ∧
  (u.tube t).setpoint = x.setpoint ∧ (u.tube t).offsets = x.offsets ∧ (u.tube t).settings = x.settings

/-! ### What a bank reset leaves (R23 and the bank reset columns of the chapters' tables) -/

/-- A tube after a bank reset: `x` before it, `y` after it. -/
def Tube.afterBankReset (x y : Tube) : Prop :=
  y.mode = .outOfService ∧ y.step = none ∧ y.loopOwner = none ∧ y.loopLeft = 0 ∧ y.events = 0 ∧ y.lastFault = none ∧
  y.setpoint = 0 ∧ y.offsets = ⟨0, 0, 0⟩ ∧ y.idleAcc = 0 ∧ y.position = x.position ∧ y.taken = false ∧
  y.gas = TubeGas.zero ∧ y.flowSettle = 0 ∧ y.settings = x.settings

/-- A port engine after a bank reset: `e` before it, `f` after it (R165). -/
def PortEngine.afterBankReset (e f : PortEngine) : Prop :=
  f.rx = none ∧ f.queue = [] ∧ f.cts = true ∧ f.rejectFrame = 0 ∧ f.rejectOverrun = none ∧ f.notePending = true ∧
  f.replies = e.replies ∧ f.sending = e.sending

/-- The bank after a bank reset: `s` before it, `u` after it. -/
def State.afterBankReset (s u : State) : Prop :=
  (∀ t, (s.tube t).afterBankReset (u.tube t)) ∧
  (∀ p, (u.proof p).proven = (s.proof p).proven ∧ (u.proof p).count = 0 ∧ (u.proof p).kept = (s.proof p).kept) ∧
  (∀ m, u.mark m = Mark.clear) ∧
  u.gas = { s.gas with queue := [] } ∧
  u.power.kept = s.power.kept ∧ u.power.requests = [] ∧ u.power.grants = [] ∧ u.power.pointer = .t3 ∧
  u.power.throttle = 1000 ∧ (∀ t z, (u.power.ceiling.get t).get z = 0) ∧ u.commitment = 0 ∧
  u.monitor.latch = true ∧ u.monitor.hold = false ∧ u.bank = s.bank ∧
  (∀ t z, ((u.link.zones.get t).get z).reading = none) ∧ (∀ t, (u.link.flows.get t).reading = none) ∧
  (∀ t, (u.link.loaders.get t).reading = none) ∧ u.link.bank.reading = none ∧
  (∀ n, u.nodeStatus n = NodeStatus.reset (decide (n ≠ .bank))) ∧
  (∀ p, (s.port p).afterBankReset (u.port p)) ∧ u.bankError = none ∧ u.bankEvents = 0 ∧
  u.profile = s.profile ∧ u.b0 = s.b0 ∧ u.b1 = s.b1 ∧ u.b2 = s.b2 ∧ u.pending = s.pending

/-! ### Which row is which command, and the ranges of the settings -/

end Sys2Proof.Machine

namespace Sys2Proof

open Sys2Proof.Machine

/-- The port and the command of the rows that are commands of a port master (Table 71). -/
def Instr.asCmd : Instr → Option (Port × Cmd)
  | .read p item index => some (p, .read item index)
  | .readStep p index => some (p, .readStep index)
  | .writeStep p index record => some (p, .writeStep index record)
  | .start p entry => some (p, .start entry)
  | .hold p => some (p, .hold)
  | .resume p => some (p, .resume)
  | .skip p => some (p, .skip)
  | .abort p => some (p, .abort)
  | .serviceIn p tube => some (p, .serviceIn tube)
  | .serviceOut p tube => some (p, .serviceOut tube)
  | .clearEvents p kinds => some (p, .clearEvents kinds)
  | .clearMark p mark => some (p, .clearMark mark)
  | .clearError p => some (p, .clearError)
  | .clearBankEvents p kinds => some (p, .clearBankEvents kinds)
  | .bankHold p => some (p, .bankHold)
  | .bankRelease p => some (p, .bankRelease)
  | .bankStop p => some (p, .bankStop)
  | .bankReset p => some (p, .bankReset)
  | .settingWrite p bank item index value => some (p, .set bank item index (settingValues item value))
  | .setRegions p b0 b1 b2 => some (p, .set true 0x20 0 [b0, b1, b2])
  | .lineConfigurationWrite p t line header maximum => some (p, .set false 0x42 (16 * t.num + line.num) [header, maximum])
  | .tmaxWrite p t v => some (p, .set false 0x43 (16 * t.num) [v])
  | .strokeWrite p t v => some (p, .set false 0x44 (16 * t.num) [v])
  | .standbyFlowWrite p t v => some (p, .set false 0x45 (16 * t.num) [v])
  | .idleFlowWrite p t v => some (p, .set false 0x46 (16 * t.num) [v])
  | .idlePeriodWrite p t v => some (p, .set false 0x49 (16 * t.num) [v])
  | .maskWrite p t wake kinds => some (p, .set false (if wake then 0x4B else 0x4A) (16 * t.num) [kinds])
  | .eventEnablesWrite p t kinds => some (p, .set false 0x41 (16 * t.num) [kinds])
  | .pushBandWrite p t v => some (p, .set false 0x4C (16 * t.num) [v])
  | .proofSourceWrite p proof source => some (p, proofWrite proof 0x50 0x2A source)
  | .exhThresholdWrite p t high v => some (p, .set false 0x53 (16 * t.num + bit high) [v])
  | .coolingThresholdWrite p v => some (p, .set true 0x2D 0 [v])
  | .debounceWrite p proof v => some (p, proofWrite proof 0x51 0x2B v)
  | .capacityWrite p header v => some (p, .set true 0x10 header.num [v])
  | .inertReserveWrite p v => some (p, .set true 0x11 0 [v])
  | .admissionPolicyWrite p v => some (p, .set true 0x14 0 [v])
  | .budgetWrite p v => some (p, .set true 0x18 0 [v])
  | .holdReserveWrite p index v => some (p, .set true 0x19 index [v])
  | .rampOrderWrite p v => some (p, orderWrite v)
  | .cmaxWrite p index v => some (p, .set true 0x1C index [v])
  | .flowToleranceWrite p min v => some (p, .set true 0x23 (bit min) [v])
  | .sealBandWrite p t v => some (p, .set false 0x4E (16 * t.num) [v])
  | .powerOn | .resetPin | .frameReceived _ _ | .interByteTimeout _ | .commandTaken _ | .transmitterFree _
  | .rampTick _ | .motionTick _ | .soakComplete _ | .purgePhaseEnd _ | .proofTimeout _ | .settleTimeExpiry _
  | .emergencyPurgeEnd _ | .idleTimerExpiry _ | .syncTimeout _ | .bandTimeout _ | .zoneStale _ | .gasLost _
  | .settleStall _ | .followStall _ | .proofEdge _ | .flowSettleEnd _ | .pollDue _ | .exchangeTaken | .goodReply _ _
  | .replyTimeout _ | .syncByteReceived _ | .lenAbove250 _ _ => none

/-- The row is a tick of a tube, the end of one of its counters, or a proven edge: the steps in which no master and no
node takes part. -/
def Instr.isInternal : Instr → Bool
  | .rampTick _ | .motionTick _ | .soakComplete _ | .purgePhaseEnd _ | .proofTimeout _ | .settleTimeExpiry _
  | .emergencyPurgeEnd _ | .idleTimerExpiry _ | .syncTimeout _ | .bandTimeout _ | .zoneStale _ | .gasLost _
  | .settleStall _ | .followStall _ | .proofEdge _ | .flowSettleEnd _ => true
  | _ => false

/-- The rows that may move a centre setpoint: those that R51 lists (ramp ticks, a Tmax write in its spellings, power-on and a
bank reset), and the counter ends that are ramp ticks, whose earlier ticks pass with them (log entry 6). -/
def Instr.mayMoveSetpoint : Instr → Bool
  | .rampTick _ | .soakComplete _ | .purgePhaseEnd _ | .proofTimeout _ | .emergencyPurgeEnd _ | .idleTimerExpiry _
  | .syncTimeout _ | .bandTimeout _ | .zoneStale _ | .gasLost _ | .tmaxWrite _ _ _
  | .commandTaken _ | .powerOn | .resetPin | .bankReset _ => true
  | .settingWrite _ _ item _ _ => item == 0x43
  | _ => false

/-- The arguments of a command are those that its payload can carry from this port (Table 71). -/
def Machine.Cmd.wf (p : Port) : Cmd → Bool
  | .read item index => fitsByte item && fitsByte index
  | .readStep index => fitsWord index
  | .writeStep index record => fitsWord index && fitsRecord record
  | .start entry => fitsWord entry
  | .serviceOut tube | .serviceIn tube =>
    fitsTubeByte tube && (match p with
      | .station _ => tube.isNone
      | .facility => tube.isSome)
  | .set _ item index values =>
    fitsByte item && fitsByte index && (match itemWidths? item with
      | some ws => values.length == ws.length && (ws.zip values).all fun f => decide (f.2 < 256 ^ f.1)
      | none => values.isEmpty)
  | .clearEvents kinds => fitsWord kinds
  | .clearMark mark => fitsByte mark
  | .clearBankEvents kinds => fitsByte kinds
  | .hold | .resume | .skip | .abort | .clearError | .bankHold | .bankRelease | .bankStop | .bankReset => true

/-- The range of a numeric setting that is accepted in every tube state but SETTLING, or always (Tables 35, 41, 45, 47,
53, 56, R37, R136, R137, R150). -/
def Machine.Setting.range? : Setting → Option (Nat × Nat)
  | .capacity _ | .reserve => some (0, 200000)
  | .emergencyFlow | .standbyFlow _ | .idleFlow _ => some (0, 50000)
  | .emergencyTime => some (0, 3600)
  | .budget => some (0, 20000)
  | .holdReserve _ => some (0, 5000)
  | .cmax _ _ => some (0, 1000)
  | .proofTime => some (1, 3600)
  | .flowLossTime => some (1, 60)
  | .tolerance false => some (1, 20)
  | .tolerance true => some (0, 1000)
  | .flowSettleTime => some (0, 300)
  | .zoneStaleLimit => some (1, 600)
  | .inPositionBand => some (1, 500)
  | .settleTime => some (1, 60)
  | .followLimit => some (10, 5000)
  | .stallTime => some (1, 100)
  | .bankDebounce _ | .tubeDebounce _ _ => some (0, 100)
  | .coolingThreshold => some (0, 10000)
  | .idleTemperature _ => some (0, 13000)
  | .idleRate _ => some (1, 5000)
  | .idlePeriod _ => some (0, 1440)
  | .pushBand _ => some (0, 500)
  | .bandLimit _ => some (0, 65535)
  | .sealBand _ => some (0, 1000)
  | _ => none

/-- A proof accepts a source (Table 58), by the source's code. -/
def sourceCodeAllowed : ProofId → Nat → Bool
  | .tube _ .exh, v | .tube _ .sealed, v | .bank .cooling, v => decide (v ≤ 4)
  | .tube _ .otc, v => decide (1 ≤ v ∧ v ≤ 4)
  | .tube _ .flow, v => v == 0
  | .bank .estop, v => v == 1 || v == 2

/-- The values that an enumerated setting or a set may take, component by component; none for the other settings (Table 75,
Table 58, R24, R115, R138, R154; for a set of event kinds log entry 18). -/
def Machine.Setting.choices? : Setting → Option (List Nat → Bool)
  | .policy | .rampOrder | .faultAction _ => some fun vs => vs.all fun v => decide (v ≤ 1)
  | .bankEnables _ | .tubeEnables _ _ => some fun vs => vs.all fun v => decide (v ≤ 1)
  | .priorities => some fun vs => [0, 1, 2, 3].all fun k => vs.contains k
  | .eventEnables _ => some fun vs => vs.all fun v => decide (v < 2 ^ 15)
  | .activityMask _ | .wakeMask _ => some fun vs => vs.all fun v => decide (v < 2 ^ 4)
  | .tubeSource t k => some fun vs => vs.all (sourceCodeAllowed (.tube t k))
  | .bankSource k => some fun vs => vs.all (sourceCodeAllowed (.bank k))
  | _ => none

/-- Why a write of a setting is refused in the state as it stands: a source write outside OUT_OF_SERVICE, or for a bank proof
with the latch clear (R131). -/
def Machine.State.choiceBlocked (s : State) : Setting → Option Reason
  | .tubeSource t _ => if (s.tube t).mode = .outOfService then none else some .tubeActive
  | .bankSource _ => if s.monitor.latch then none else some .badState
  | _ => none

/-- The raw value that a source gives from the proof's contact and its INTERNAL value, the node being fresh (R132). -/
def Machine.Source.value (contact internal : Bool) : Source → Bool
  | .internal => internal
  | .externalPass => contact
  | .externalComplement => !contact
  | .fixedTrue => true
  | .fixedFalse => false

/-- The arbiter's rank of a poll: loader drives, then flow units and the bank node, then zone units (R144). -/
def NodeId.pollRank : NodeId → Nat
  | .loader _ => 0
  | .flow _ => 1
  | .bank => 1
  | .zone _ _ => 2

end Sys2Proof
end

