-- ==== Sys2Proof/Certificates/Slice0/Obligations.lean ====
section
/-!
DEFINITION. The statements for the provers, from the rules of the spec: the step, reset, the invariants that every step
keeps, what a port master can send, each command's completion and frame, the ticks and counters, the proofs, the field
link, the allocators and the port engines.  OBLIGATIONS.json lists them.
-/

open Sys2Proof Sys2Proof.Machine

/-! ### The step and the whole machine -/

/-- The command at the front of the queue runs on the state with the queue's rest. -/
def Obligations.StepRunsFrontCommand : Prop :=
  ∀ (c : Instr) (rest : List Instr) (s : State), s.pending = c :: rest → step s = exec c { s with pending := rest }

/-- With no command waiting one 0.1 s step of the Condition Monitor passes (the model's choice, log entry 4): nothing that `kept`
keeps changes; where no edge is due every flow settle time falls by 1, the count of every proof whose raw value differs from its proven
value rises by 1, and a hold that ends derives FLOW anew with its count at 0; the one due edge of a step is proven, with its count at
0 (R135, R137). -/
def Obligations.EmptyQueueCountsProofs : Prop :=
  (∀ s : State, s.pending = [] → ∃ u, step s = .next u ∧ u.kept = s.kept ∧
    let held := fun p : ProofId => ∃ t, p = .tube t .flow ∧ 0 < (s.tube t).flowSettle
    let ends := fun p : ProofId => ∃ t, p = .tube t .flow ∧ (s.tube t).flowSettle = 1
    let due := fun p : ProofId =>
      (¬held p ∧ (s.proof p).raw ≠ (s.proof p).proven ∧ (s.proof p).debounce ≤ (s.proof p).count + 1) ∨
      (ends p ∧ s.rawNow p ≠ (s.proof p).proven ∧ (s.proof p).debounce = 0)
    (s.jobs = [] → (∀ p, ¬due p) →
      (∀ t, (u.tube t).flowSettle = (s.tube t).flowSettle - 1) ∧
      (∀ p, (ends p → u.proof p = { s.proof p with raw := s.rawNow p, count := 0 }) ∧
        (held p → ¬ends p → u.proof p = s.proof p) ∧
        (¬held p → (s.proof p).raw ≠ (s.proof p).proven →
          u.proof p = { s.proof p with count := (s.proof p).count + 1 }) ∧
        (¬held p → (s.proof p).raw = (s.proof p).proven → u.proof p = s.proof p)) ∧
      ∀ t, (u.tube t).mode = (s.tube t).mode ∧ (u.tube t).gas = (s.tube t).gas ∧ (u.tube t).step = (s.tube t).step) ∧
    (s.jobs = [] → s.monitor.flowSettleTime ≠ 0 → ∀ p, due p → (∀ q, q ≠ p → ¬due q) →
      (u.proof p).proven = !(s.proof p).proven ∧ (u.proof p).count = 0)) ∧
  step State.reset = .next State.reset

/-- Every command answers a next state (no rule stops the part: the model's reading, log entry 3), and leaves the queue of waiting
commands alone, POWER_ON included (the model's choice, log entry 19). -/
def Obligations.ExecKeepsQueue : Prop :=
  ∀ (c : Instr) (s : State), ∃ u, exec c s = .next u ∧ u.pending = s.pending

/-- A step, with a command waiting or none, after which a port's summary differs has that port's note pending; a note that is pending
stays so through every step but a TRANSMITTER_FREE of its port; and a change of a grant sum or of B, C or k is noted where it is made,
so that one taken back later in the same step is noted too, the release that precedes an emergency grant among them; a gas grant is noted
even where it leaves every grant sum as it was, which is the model's reading, log entry 34 (R88, R95, R96, R100, R163). -/
def Obligations.ChangedSummaryIsNoted : Prop :=
  (∀ s : State, ∃ u, step s = .next u ∧ ∀ p,
    (u.summary p ≠ s.summary p → (u.port p).notePending = true) ∧
    ((s.port p).notePending = true → s.pending.head? ≠ some (.transmitterFree p) → (u.port p).notePending = true)) ∧
  (∀ (s : State) (t : TubeId) (g : TubeGas) (h : Header), (s.setGas t g).grantSum h ≠ s.grantSum h →
    ((s.setGas t g).port .facility).notePending = true) ∧
  (∀ (s : State) (t : TubeId) (flows : PerLine Nat), ((s.grantGas t flows).port .facility).notePending = true) ∧
  (∀ (s : State) (t : TubeId) (h : Header), s.grantOn t h ≠ 0 →
    ((s.grantEmergency t).port .facility).notePending = true) ∧
  ∀ (s : State) (f : PowerAllocator → PowerAllocator),
    ((s.modPower f).power.budget ≠ s.power.budget ∨ (s.modPower f).commitment ≠ s.commitment ∨
      (s.modPower f).power.throttle ≠ s.power.throttle) → ((s.modPower f).port .facility).notePending = true

/-- Ticks, counter ends and proven edges change no setting, no descriptor, no region boundary, nothing of the field link,
not the bank hold flag, and of a port engine its note-pending flag alone. -/
def Obligations.InternalStepsKeepSettings : Prop :=
  ∀ (c : Instr) (s : State), c.isInternal = true → ∃ u, exec c s = .next u ∧ u.kept = s.kept

/-- S moves on ramp ticks, on a Tmax write and at power-on and bank reset alone (R51); the rows that are the end of a counter let the
ramp ticks before it pass, so they may move it too (the model's choice, log entry 6).  Of SETTING_WRITE it is the Tmax item alone; a
COMMAND_TAKEN that takes neither a Tmax write nor BANK_RESET, and a step with no command waiting, move no setpoint. -/
def Obligations.SetpointMovedByListedRowsOnly : Prop :=
  (∀ (c : Instr) (s : State) (t : TubeId), c.mayMoveSetpoint = false →
    ∃ u, exec c s = .next u ∧ (u.tube t).setpoint = (s.tube t).setpoint) ∧
  (∀ (s : State) (p : Port) (t : TubeId),
    (∀ f rest, (s.port p).queue = f :: rest → f.code ≠ 0x24 ∧ (f.code = 0x0B → f.payload.head? ≠ some 0x43)) →
    ∃ u, exec (.commandTaken p) s = .next u ∧ (u.tube t).setpoint = (s.tube t).setpoint) ∧
  ∀ (s : State) (t : TubeId), s.pending = [] → ∃ u, step s = .next u ∧ (u.tube t).setpoint = (s.tube t).setpoint

/-! ### Reset -/

/-- The values that the spec gives for power-on (R5, R23, R51, R87, R101, R116, R130, R141, R147, R165).  That the waiting commands
and the counter of free values are kept is the model's choice (log entries 19 and 1), and so is that no reply stands, no frame is being sent
and no exchange is in progress (log entry 39). -/
def Obligations.PowerOnValues : Prop :=
  ∀ s : State, ∃ u, exec .powerOn s = .next u ∧ u = { State.reset with pending := s.pending, free := s.free } ∧
    (∀ i, i < 1024 → u.readRecord i = powerOnRecord) ∧ u.b0 = 256 ∧ u.b1 = 512 ∧ u.b2 = 768 ∧
    (∀ t, (u.tube t).mode = .outOfService ∧ (u.tube t).setpoint = 0 ∧ (u.tube t).offsets = ⟨0, 0, 0⟩ ∧
      (u.tube t).position = 0 ∧ (u.tube t).taken = false ∧ (u.tube t).events = 0 ∧ (u.tube t).lastFault = none ∧
      (u.tube t).settings.tmax = 12000 ∧ (u.tube t).settings.stroke = 24000 ∧ (u.tube t).settings.enables = 0) ∧
    (∀ p, (u.proof p).proven = false) ∧ (∀ h, u.gas.capacity.get h = 0 ∧ u.grantSum h = 0) ∧
    u.commitment = 0 ∧ u.power.budget = 0 ∧ u.power.throttle = 1000 ∧ u.power.pointer = .t3 ∧
    u.monitor.latch = true ∧ u.monitor.hold = false ∧
    (∀ n, (u.nodeStatus n).fresh = false ∧ (u.nodeStatus n).misses = 0) ∧
    ∀ p, (u.port p).queue = [] ∧ (u.port p).cts = true ∧ (u.port p).notePending = true ∧ u.attn p = false

/-- A bank reset from the pin and from BANK_RESET has the same effect; BANK_RESET is acknowledged first (R23, R165).  That the frame being
sent is kept, whatever frame it is, is the model's choice (log entry 39). -/
def Obligations.BankResetFromPinAndCommand : Prop :=
  ∀ s : State, (∃ u, exec .resetPin s = .next u ∧ s.afterBankReset u) ∧
    ∃ u, exec (.bankReset .facility) s = .next u ∧ (s.addReply .facility (ackFrame 0x24 [])).afterBankReset u

/-- Every invariant below holds of the machine after reset. -/
def Obligations.InvariantsHoldAtReset : Prop :=
  State.reset.memoryInv ∧ State.reset.regionInv ∧ State.reset.headerInv ∧ State.reset.travelInv ∧
  State.reset.powerInv ∧ State.reset.priorityInv ∧ State.reset.portInv ∧ State.reset.modeInv ∧ State.reset.recipeInv ∧ State.reset.markInv ∧
  State.reset.gasInv ∧ State.reset.jobs = [] ∧ State.reset.pending = []

/-! ### Invariants that every step keeps -/

/-- The Profile Memory keeps its canonical form and its 1024 records, and the boundaries stay non-decreasing and within
it (R1, R2). -/
def Obligations.ProfileMemoryInvariantKept : Prop :=
  ∀ s u : State, s.memoryInv → s.regionInv → step s = .next u → u.memoryInv ∧ u.regionInv

/-- The sum of the grants held by all tubes never exceeds a header's capacity (R87), and a tube has at most one entry in
the gas request queue (R89). -/
def Obligations.HeaderCapacityInvariantKept : Prop :=
  ∀ s u : State, s.headerInv → step s = .next u → u.headerInv

/-- The centre setpoint stays within [0, 10 × Tmax] (R51) and P within [0, stroke] (R116). -/
def Obligations.TravelInvariantKept : Prop :=
  ∀ s u : State, s.travelInv → step s = .next u → u.travelInv

/-- While any ramp grant is held the commitment is at most the budget (R109), and every zone ceiling is at most its
configured maximum (R113); the four priorities stay 0, 1, 2 and 3 in some order (R115). -/
def Obligations.PowerInvariantKept : Prop :=
  ∀ s u : State, step s = .next u → (s.powerInv → u.powerInv) ∧ (s.priorityInv → u.priorityInv)

/-- A receive queue holds at most 4 frames (R156), reject counts stay within 255 (R155, R156), miss counts within 3
(R147). -/
def Obligations.PortAndLinkBoundsKept : Prop :=
  ∀ s u : State, s.portInv → step s = .next u → u.portInv

/-- What a tube holds stays what its state allows (R22, Table 16, R84). -/
def Obligations.TubeStateInvariantKept : Prop :=
  ∀ s u : State, s.modeInv → step s = .next u → u.modeInv

/-- The active step's index of a RUNNING or HELD tube stays within the tube's own region, with completion fields that hold there (R4,
R19, R22); no tube stands twice on a waiter list, and a mark has a setter while it is set and none while it is clear (Table 24). -/
def Obligations.RecipeAndMarksInvariantKept : Prop :=
  ∀ s u : State, step s = .next u → (s.recipeInv → u.recipeInv) ∧ (s.markInv → u.markInv)

/-- The line commands stay within the grants, and what the lines of a tube may hold outside RUNNING and HELD stays so: a non-inert
line is commanded above 0 in RUNNING or HELD alone (R76, Table 16).  The completion fields of a checked step hold, as
`RecipeAndMarksInvariantKept` keeps them.  That the acts which follow on a command are kept in `jobs`, none of them left over before the
step nor, where the gas invariant is claimed, after it, is the model's choice, log entry 2: a SKIP withdraws its request before the act that
replaces the step. -/
def Obligations.GasInvariantKept : Prop :=
  ∀ s u : State, s.headerInv → s.modeInv → s.recipeInv → s.gasInv → s.jobs = [] → step s = .next u →
    (u.jobs = [] → u.gasInv) ∧ ∀ t, (u.tube t).nonInertCommanded = true → (u.tube t).mode.isRun = true

/-! ### Commands on the wire -/

/-- Every command that a master can send is read back from its CODE and payload as that command, with every argument
(Table 71).  That a SET whose item code names no setting carries no value to read is the model's reading (log entry 10). -/
def Obligations.CommandPayloadReadsBack : Prop :=
  ∀ (p : Port) (c : Cmd), c.wf p = true → parse? p c.code c.payload = some c

/-- A SYNC byte begins a frame.  The bytes of a frame are received as that frame: it joins the queue, CTS dropping when the queue comes to hold 3, or
with 4 held it is an overrun; with another CHECK byte it is discarded and counted.  A LEN above 250 abandons the frame at once; so do more than
5 ms between two bytes; each abandoned frame counts (R155, R156). -/
def Obligations.FramesReceivedOrAbandoned : Prop :=
  (∀ (s : State) (p : Port) (f : Frame), s.jobs = [] → (s.port p).rx = none → f.payload.length ≤ 250 →
    ((s.port p).queue.length < 4 →
      exec (.frameReceived p (frameBytes f)) s = .next (s.setPort p { s.port p with
        queue := (s.port p).queue ++ [f]
        cts := (s.port p).cts && decide ((s.port p).queue.length + 1 ≠ 3) })) ∧
    ((s.port p).queue.length = 4 →
      exec (.frameReceived p (frameBytes f)) s = .next (s.setPort p { s.port p with
        rejectOverrun := some (match (s.port p).rejectOverrun with
          | none => (f.code, 1)
          | some (c, n) => (c, min 255 (n + 1))) })) ∧
    ∀ b, b ≠ frameCheck f →
      exec (.frameReceived p ([Config.syncByte, BitVec.ofNat 8 f.payload.length, f.code] ++ f.payload ++ [b])) s =
        .next (s.setPort p { s.port p with rejectFrame := min 255 ((s.port p).rejectFrame + 1) })) ∧
  ∀ (s : State) (p : Port), s.jobs = [] →
    ((s.port p).rx = none →
      exec (.syncByteReceived p) s = .next (s.setPort p { s.port p with rx := some [] }) ∧
      exec (.interByteTimeout p) s = .next s) ∧
    (∀ len : Byte, (s.port p).rx = some [] → 250 < len.toNat →
      exec (.lenAbove250 p len) s = .next (s.setPort p { s.port p with
        rx := none, rejectFrame := min 255 ((s.port p).rejectFrame + 1) })) ∧
    ∀ bytes, (s.port p).rx = some bytes →
      exec (.interByteTimeout p) s = .next (s.setPort p { s.port p with
        rx := none, rejectFrame := min 255 ((s.port p).rejectFrame + 1) })

/-- A free transmitter sends the first due of the reply, REJECT(FRAME), the pending note while no frame is being
received, and REJECT(OVERRUN) with the queue empty; a sent REJECT clears its count; with nothing of the first three due the engine may take
the next queued frame (R164).  That a port may have several replies made and not yet sent, which go out oldest first, is the model's choice
(log entry 5), and so is the reading of the row as the end of the frame being sent (log entry 21). -/
def Obligations.TransmitterSendsFirstDue : Prop :=
  ∀ (s : State) (p : Port), s.jobs = [] →
    (∀ r rest, (s.port p).replies = r :: rest →
      exec (.transmitterFree p) s = .next (s.setPort p { s.port p with sending := some r, replies := rest })) ∧
    ((s.port p).replies = [] → 0 < (s.port p).rejectFrame →
      exec (.transmitterFree p) s = .next (s.setPort p { s.port p with
        sending := some (rejectFrameFrame (s.port p).rejectFrame), rejectFrame := 0 })) ∧
    ((s.port p).replies = [] → (s.port p).rejectFrame = 0 → (s.port p).notePending = true → (s.port p).rx = none →
      exec (.transmitterFree p) s = .next (s.setPort p { s.port p with
        sending := some (s.note p), notePending := false })) ∧
    ((s.port p).replies = [] → (s.port p).rejectFrame = 0 →
      ((s.port p).notePending = false ∨ (s.port p).rx ≠ none) →
      (∀ c n, (s.port p).rejectOverrun = some (c, n) → (s.port p).queue = [] →
        exec (.transmitterFree p) s = .next (s.setPort p { s.port p with
          sending := some (rejectOverrunFrame c n), rejectOverrun := none })) ∧
      (((s.port p).rejectOverrun = none ∨ (s.port p).queue ≠ []) →
        exec (.transmitterFree p) s = .next (s.setPort p { s.port p with sending := none })) ∧
      ((s.port p).sending = none → (s.port p).mayTake = true))

/-- A TUBE_NOTE carries Table 73 in 14 bytes and a BANK_NOTE Table 74 in 42, every number least significant byte first, and a READ of the
summary item shows the note's payload; a station's ATTN is asserted while a request is held whose enable is set, the facility's while
any bank request is held, and every one is released after power-on and bank reset (R162, R163). -/
def Obligations.NotesAndAttention : Prop :=
  ∀ (s : State) (t : TubeId),
    (let m := (s.note (.station t)).payload
      let x := s.tube t
      let byte := fun k => (m.getD k 0).toNat
      let word := fun k => byte k + 256 * byte (k + 1)
      (s.note (.station t)).code = 0x90 ∧ m.length = 14 ∧ byte 0 = t.num ∧
      byte 1 = (match x.mode with
        | .outOfService => 0
        | .settling _ => 1
        | .idle _ => 2
        | .idlePurge => 3
        | .running _ => 4
        | .held _ _ => 5
        | .aborting _ => 6) ∧
      byte 2 = (match x.mode with
        | .held .station _ => 1
        | .held .fault _ => 2
        | .held .invalid _ => 3
        | .held .bank _ => 4
        | _ => 0) ∧
      byte 3 = (match x.mode with
        | .running .notStarted | .held _ .notStarted => 1
        | .running .acquire | .held _ .acquire => 2
        | .running .prove | .held _ .prove => 3
        | .running .execute | .held _ .execute => 4
        | _ => 0) ∧
      word 4 = (match x.step with
        | none => 65535
        | some st => st.index % 65536) ∧
      byte 6 = x.loopLeft % 256 ∧ word 7 = x.events.toNat ∧ word 9 = x.setpoint / 10 % 65536 ∧
      word 11 = x.position % 65536 ∧
      byte 13 = (match x.lastFault with
        | none => 0
        | some f => f.kind.num) ∧
      s.readItem 0x80 (16 * t.num) = some m) ∧
    (let m := (s.note .facility).payload
      let byte := fun k => (m.getD k 0).toNat
      let word := fun k => byte k + 256 * byte (k + 1)
      (s.note .facility).code = 0x91 ∧ m.length = 42 ∧ byte 0 = (if s.monitor.latch then 1 else 0) ∧
      byte 1 = (if s.monitor.hold then 1 else 0) ∧
      (∀ h : Header, word (2 + 4 * h.num) + 65536 * word (4 + 4 * h.num) = s.grantSum h % 2 ^ 32 ∧
        word (18 + 4 * h.num) + 65536 * word (20 + 4 * h.num) = s.gas.capacity.get h % 2 ^ 32) ∧
      word 34 = s.power.budget % 65536 ∧ word 36 = s.commitment % 65536 ∧ word 38 = s.power.throttle % 65536 ∧
      byte 40 = s.bankEvents.toNat ∧ byte 41 = (if s.bankError.isSome then 1 else 0) ∧ s.readItem 0x90 0 = some m) ∧
    (s.attn (.station t) = true ↔
      ∃ k, k < 15 ∧ (s.tube t).events.getLsbD k = true ∧ (s.tube t).settings.enables.getLsbD k = true) ∧
    (s.attn .facility = true ↔ ∃ k, k < 7 ∧ s.bankEvents.getLsbD k = true) ∧
    (∀ p, ∃ u v, exec .powerOn s = .next u ∧ u.attn p = false ∧ exec .resetPin s = .next v ∧ v.attn p = false)

/-- The engine takes its oldest frame: an unknown CODE is refused UNKNOWN, a command of the other class NOT_OWNER, a
payload of another length BAD_VALUE, and a command's frame runs that command; CTS is raised when the queue becomes empty
(R156, R157). -/
def Obligations.CommandTakenIsJudged : Prop :=
  ∀ (s : State) (p : Port) (f : Frame) (rest : List Frame), s.jobs = [] → (s.port p).mayTake = true →
    (s.port p).queue = f :: rest →
    let v := s.setPort p { s.port p with queue := rest, cts := (s.port p).cts || decide (rest = []) }
    (codeClass? f.code.toNat = none →
      exec (.commandTaken p) s = .next (v.addReply p (refuseFrame f.code .unknown))) ∧
    (∀ k, codeClass? f.code.toNat = some k → k.allows p = false →
      exec (.commandTaken p) s = .next (v.addReply p (refuseFrame f.code .notOwner))) ∧
    (∀ k, codeClass? f.code.toNat = some k → k.allows p = true → parse? p f.code.toNat f.payload = none →
      exec (.commandTaken p) s = .next (v.addReply p (refuseFrame f.code .badValue))) ∧
    ∀ (i : Instr) (c : Cmd), i.asCmd = some (p, c) → c.wf p = true → f = c.frame →
      ((codeClass? c.code).any fun k => k.allows p) = true → exec (.commandTaken p) s = exec i v

/-! ### Refusals -/

/-- Refusals that change nothing else: a command of the other port class NOT_OWNER; in SETTLING every command of the tube's station but
SERVICE_OUT NOT_READY (R26, R157); a value of another length than its item's BAD_VALUE (R157, step 3); an item code that names no setting, read-only
items among them, or an index out of the item's range BAD_VALUE (R158, step 1; that the index of an item without one is 0 is the model's
reading, log entry 10); another tube's item, a tube item from SET_BANK or a bank item from SET_TUBE NOT_OWNER (R158, step 2); a tube number
above 3 BAD_VALUE (R157); SERVICE_IN of a SETTLING tube from the facility NOT_READY (R26); RESUME in RUNNING BAD_STATE (R31). -/
def Obligations.CommandsRefusedAtThePort : Prop :=
  (∀ (s : State) (i : Instr) (p : Port) (c : Cmd) (k : PortClass), s.jobs = [] → i.asCmd = some (p, c) →
    codeClass? c.code = some k → k.allows p = false →
      Answered i p (refuseFrame (BitVec.ofNat 8 c.code) .notOwner) s s) ∧
  (∀ (s : State) (i : Instr) (t : TubeId) (c : Cmd) (n : Nat), s.jobs = [] → (s.tube t).mode = .settling n →
    i.asCmd = some (.station t, c) → c.lengthOk (.station t) = true → c.isServiceOut = false →
    ((codeClass? c.code).any fun k => k.allows (.station t)) = true →
      Answered i (.station t) (refuseFrame (BitVec.ofNat 8 c.code) .notReady) s s) ∧
  ∀ (s : State), s.jobs = [] →
    (∀ (i : Instr) (p : Port) (bank : Bool) (item index : Nat) (vs : List Nat),
      i.asCmd = some (p, .set bank item index vs) → s.portSettling p = false →
      ((codeClass? (Cmd.set bank item index vs).code).any fun k => k.allows p) = true →
      let code : Byte := if bank then 0x20 else 0x0B
      (Cmd.lengthOk p (.set bank item index vs) = false → Answered i p (refuseFrame code .badValue) s s) ∧
      (Cmd.lengthOk p (.set bank item index vs) = true →
        ((item ∉ [0x10, 0x11, 0x12, 0x13, 0x14, 0x18, 0x19, 0x1A, 0x1B, 0x1C, 0x20, 0x21, 0x22, 0x23, 0x24, 0x25, 0x26, 0x27,
            0x28, 0x29, 0x2A, 0x2B, 0x2C, 0x2D, 0x40, 0x41, 0x42, 0x43, 0x44, 0x45, 0x46, 0x47, 0x48, 0x49, 0x4A, 0x4B, 0x4C,
            0x4D, 0x4E, 0x50, 0x51, 0x52, 0x53] ∨
          (item ∈ [0x10, 0x19] ∧ 4 ≤ index) ∨ (item = 0x1C ∧ 12 ≤ index) ∨ (item ∈ [0x23, 0x2A, 0x2B, 0x2C] ∧ 2 ≤ index) ∨
          (item ∈ [0x40, 0x41, 0x43, 0x44, 0x45, 0x46, 0x47, 0x48, 0x49, 0x4A, 0x4B, 0x4C, 0x4D, 0x4E] ∧
            (64 ≤ index ∨ index % 16 ≠ 0)) ∨
          (item = 0x42 ∧ (64 ≤ index ∨ 6 ≤ index % 16)) ∨ (item ∈ [0x50, 0x51, 0x52] ∧ (64 ≤ index ∨ 4 ≤ index % 16)) ∨
          (item = 0x53 ∧ (64 ≤ index ∨ 2 ≤ index % 16)) ∨ settingOf? item index = none) →
            Answered i p (refuseFrame code .badValue) s s) ∧
        ∀ x, settingOf? item index = some x →
          (x.owner = none ∧ bank = false ∨ x.owner ≠ none ∧ bank = true ∨
            ∃ t u, x.owner = some t ∧ p = .station u ∧ u ≠ t) →
            Answered i p (refuseFrame code .notOwner) s s)) ∧
    (∀ n, 4 ≤ n →
      Answered (.serviceIn .facility (some n)) .facility (refuseFrame 0x0A .badValue) s s ∧
      Answered (.serviceOut .facility (some n)) .facility (refuseFrame 0x09 .badValue) s s) ∧
    (∀ t n, (s.tube t).mode = .settling n →
      Answered (.serviceIn .facility (some t.num)) .facility (refuseFrame 0x0A .notReady) s s) ∧
    ∀ t ph, (s.tube t).mode = .running ph →
      Answered (.resume (.station t)) (.station t) (refuseFrame 0x06 .badState) s s

/-- The refusals of the run commands and service commands by tube state, and of START by the latch and the region, each
changing nothing else (R25, R27 to R29, R31, R34, Table 19). -/
def Obligations.RunCommandsRefusedByState : Prop :=
  ∀ (s : State) (t : TubeId) (entry : Nat), s.jobs = [] → (s.tube t).mode.isSettling = false →
    (s.monitor.latch = true →
      Answered (.start (.station t) entry) (.station t) (refuseFrame 0x04 .bankStopped) s s) ∧
    (s.monitor.latch = false → s.inRegion t entry = false →
      Answered (.start (.station t) entry) (.station t) (refuseFrame 0x04 .outOfRegion) s s) ∧
    (s.monitor.latch = false → s.inRegion t entry = true → (s.tube t).mode.isIdle = false →
      (s.tube t).mode ≠ .idlePurge →
      Answered (.start (.station t) entry) (.station t) (refuseFrame 0x04 .badState) s s) ∧
    ((s.tube t).mode.isRun = false →
      Answered (.hold (.station t)) (.station t) (refuseFrame 0x05 .badState) s s ∧
      Answered (.resume (.station t)) (.station t) (refuseFrame 0x06 .badState) s s ∧
      Answered (.skip (.station t)) (.station t) (refuseFrame 0x07 .badState) s s ∧
      ((s.tube t).mode.isAborting = false →
        Answered (.abort (.station t)) (.station t) (refuseFrame 0x08 .badState) s s)) ∧
    ((∃ r ph st, (s.tube t).mode = .held r ph ∧ (s.tube t).step = some st) → s.monitor.hold = true →
      Answered (.resume (.station t)) (.station t) (refuseFrame 0x06 .bankHold) s s) ∧
    ((s.tube t).mode ≠ .outOfService →
      Answered (.serviceIn (.station t) none) (.station t) (refuseFrame 0x0A .badState) s s ∧
      Answered (.serviceIn .facility (some t.num)) .facility (refuseFrame 0x0A .badState) s s) ∧
    ((s.tube t).mode.isIdle = false → (s.tube t).mode ≠ .idlePurge →
      Answered (.serviceOut (.station t) none) (.station t) (refuseFrame 0x09 .tubeActive) s s ∧
      Answered (.serviceOut .facility (some t.num)) .facility (refuseFrame 0x09 .tubeActive) s s)

/-! ### Profile Memory -/

/-- READ_STEP is taken from every port for every index below 1024 and answered with the record, refused BAD_VALUE above and NOT_READY
from a station whose tube is SETTLING (R7).  READ is answered with the item's contents.  Neither changes anything else, where no
PORT_COMMAND activity of the reading station can act (R159).  Which read-only item shows a value, and where in it, is the model's choice
where no table says so (log entries 9 and 40). -/
def Obligations.ReadsAnswerAndChangeNothing : Prop :=
  ∀ (s : State) (p : Port), s.jobs = [] →
    (s.portSettling p = false → ∀ index, index < 1024 → ∃ u, exec (.readStep p index) s = .next u ∧
      Replied p (ackFrame 0x02 (le 2 index ++ s.readRecord index)) s u ∧ u.profile = s.profile) ∧
    (s.portSettling p = true → ∀ index, Answered (.readStep p index) p (refuseFrame 0x02 .notReady) s s) ∧
    (s.portSettling p = false → ∀ index, 1024 ≤ index → Answered (.readStep p index) p (refuseFrame 0x02 .badValue) s s) ∧
    (s.portSettling p = false → s.quietPort p →
    (∀ item index, s.readItem item index = none →
      Answered (.read p item index) p (refuseFrame 0x01 .badValue) s s) ∧
    (∀ item index bytes, s.readItem item index = some bytes →
      Answered (.read p item index) p (ackFrame 0x01 (le 1 item ++ le 1 index ++ bytes)) s s) ∧
    (∀ index, index < 1024 →
      Answered (.readStep p index) p (ackFrame 0x02 (le 2 index ++ s.readRecord index)) s s))

/-- WRITE_STEP replaces the whole record at an index of the station's own region, whatever its bytes, no other record
and nothing else (the active step record of a running tube included); outside the region it is refused OUT_OF_REGION
(R1, R6, R8). -/
def Obligations.WriteStepReplacesOneRecord : Prop :=
  ∀ (s : State) (t : TubeId) (index : Nat) (record : List Byte), s.jobs = [] → memWf s.profile = true →
    (s.tube t).mode.isSettling = false → s.activeTube t = false → record.length = 48 →
    (s.inRegion t index = true → ∃ m,
      Answered (.writeStep (.station t) index record) (.station t) (ackFrame 0x03 (le 2 index)) s { s with profile := m } ∧
      State.readRecord { s with profile := m } index = record ∧
      ∀ j, j ≠ index → State.readRecord { s with profile := m } j = s.readRecord j) ∧
    (s.inRegion t index = false →
      Answered (.writeStep (.station t) index record) (.station t) (refuseFrame 0x03 .outOfRegion) s s)

/-- SET_REGIONS, from the facility port alone: clamp, order, active tubes, and then the three boundaries together (R3). -/
def Obligations.RegionsWrittenTogether : Prop :=
  ∀ (s : State) (v0 v1 v2 : Nat), s.jobs = [] →
    let b0 := min v0 1024
    let b1 := min v1 1024
    let b2 := min v2 1024
    (∀ t, Answered (.setRegions (.station t) v0 v1 v2) (.station t) (refuseFrame 0x20 .notOwner) s s) ∧
    (¬(b0 ≤ b1 ∧ b1 ≤ b2) →
      Answered (.setRegions .facility v0 v1 v2) .facility (refuseFrame 0x20 .badValue) s s) ∧
    (b0 ≤ b1 ∧ b1 ≤ b2 →
      (∃ t, (s.regionStart t, s.regionEnd t) ≠
          (State.regionStart { s with b0 := b0, b1 := b1, b2 := b2 } t,
            State.regionEnd { s with b0 := b0, b1 := b1, b2 := b2 } t) ∧
        (s.tube t).mode ≠ .outOfService ∧ (s.tube t).mode.isIdle = false) →
      Answered (.setRegions .facility v0 v1 v2) .facility (refuseFrame 0x20 .tubeActive) s s) ∧
    (b0 ≤ b1 ∧ b1 ≤ b2 →
      (∀ t, (s.regionStart t, s.regionEnd t) ≠
          (State.regionStart { s with b0 := b0, b1 := b1, b2 := b2 } t,
            State.regionEnd { s with b0 := b0, b1 := b1, b2 := b2 } t) →
        (s.tube t).mode = .outOfService ∨ (s.tube t).mode.isIdle = true) →
      Answered (.setRegions .facility v0 v1 v2) .facility
        (ackFrame 0x20 ([0x20, 0] ++ le 2 b0 ++ le 2 b1 ++ le 2 b2)) s { s with b0 := b0, b1 := b1, b2 := b2 })

/-- The check runs the checks of Table 10 that the action has, in their order, and stops at the first that fails; `b` and `w` are the
bytes and words of the record (Tables 72 and 72a).  A code that names no action fails check 1 (R19). -/
def Obligations.CheckStopsAtFirstFailure : Prop :=
  ∀ (s : State) (t : TubeId) (i : Nat) (r : List Byte),
    let b := fun k => (r.getD k 0).toNat
    let w := fun k => b k + 256 * b (k + 1)
    let x := s.tube t
    let inRegion := fun j => s.regionStart t ≤ j ∧ j < s.regionEnd t
    let checks : List Nat := match b 0 with
      | 1 => [2, 4, 5, 7, 8, 9, 21, 22, 23, 24, 25]
      | 2 => [2, 4, 9, 10, 21, 22, 23, 24, 25]
      | 3 => [2, 3, 4, 11, 12, 13, 14, 21, 22, 23, 24, 25]
      | 4 | 5 => [2, 4, 6, 15, 16, 17, 21, 22, 23, 24, 25]
      | 6 => [2, 4, 18, 19, 20, 21, 22, 23, 24, 25]
      | _ => [21, 25]
    let passes : Nat → Prop := fun n => match n with
      | 2 => b 1 = 0 ∨ b 1 = 1 ∧ b 2 ≤ 6 ∧ ∀ k, k < b 2 → ∃ l : LineId, l.num = b (20 + 3 * k) ∧
          (∀ j, j < k → b (20 + 3 * j) ≠ b (20 + 3 * k)) ∧ s.lineHeader t l ≠ none ∧ w (21 + 3 * k) ≤ 50000 ∧
          w (21 + 3 * k) ≤ s.lineMaximum t l ∧ (b 0 = 4 ∨ b 0 = 5 → s.lineHeader t l = some .inert)
      | 3 => b 1 = 1 ∧ ∃ k, k < b 2 ∧ b (20 + 3 * k) = 0 ∧ 1 ≤ w (21 + 3 * k)
      | 4 => b 3 = 0 ∨ b 3 = 1 ∧ ∀ k, k < 3 → w (14 + 2 * k) ≤ 500 ∨ 65036 ≤ w (14 + 2 * k)
      | 5 => w 38 ≤ 13000 ∧ w 38 ≤ x.settings.tmax
      | 6 => w 38 ≤ 30000 ∧ w 38 ≤ x.settings.stroke ∧ (if b 0 = 4 then x.position ≤ w 38 else w 38 ≤ x.position)
      | 7 => 1 ≤ w 40 ∧ w 40 ≤ 5000
      | 8 => 1 ≤ w 42 ∧ w 42 ≤ 10000
      | 9 => w 44 ≤ 500
      | 10 => 1 ≤ w 38 + 65536 * w 40 ∧ w 38 + 65536 * w 40 ≤ 172800
      | 11 => 1 ≤ b 46
      | 12 => 1 ≤ w 38 ∧ w 38 ≤ 600
      | 13 => w 40 ≤ 600
      | 14 => w 42 ≤ 50000 ∧ w 42 ≤ s.lineMaximum t .l0 ∧ ∃ k, k < b 2 ∧ b (20 + 3 * k) = 0 ∧ w 42 ≤ w (21 + 3 * k)
      | 15 => 1 ≤ w 40 ∧ w 40 ≤ 1000
      | 16 => 1 ≤ w 42 ∧ w 42 ≤ 1000
      | 17 => if b 0 = 4 then x.position < w 44 ∧ w 44 < w 38 else w 38 < w 44 ∧ w 44 < x.position
      | 18 => b 38 ≤ 7
      | 19 => b 39 ≤ 1
      | 21 => b 4 = 0 ∨ b 4 = 1 ∧ b 8 ≤ 7
      | 22 => b 5 = 0 ∨ b 5 = 1 ∧ inRegion (w 10) ∧ w 10 ≤ i
      | 23 => b 5 = 0 ∨ 1 ≤ b 9
      | 24 => b 6 = 0 ∧ inRegion (i + 1) ∨ b 6 = 1 ∧ inRegion (w 12)
      | 25 => b 7 ≤ 1
      | _ => True
    (b 0 = 0 ∨ 7 < b 0 → stepCheck s t i r = some 1) ∧
    (0 < b 0 → b 0 ≤ 7 →
      (∀ n, stepCheck s t i r = some n ↔ n ∈ checks ∧ ¬passes n ∧ ∀ m ∈ checks, m < n → passes m) ∧
      (stepCheck s t i r = none ↔ ∀ m ∈ checks, passes m))

/-! ### Run commands -/

/-- START from IDLE or IDLE_PURGE: the loop register is cleared, WAKE raised from IDLE_PURGE, a queued request of the tube
withdrawn, the entry loaded with fresh counters; a failed check gives HELD (INVALID) with both records, the bank hold flag
HELD (BANK), and otherwise the step begins with its offsets.  With a gas_set it makes its request: granted at once, its flows are
commanded and it goes on to PROVE; not granted, it waits in ACQUIRE with GAS_WAIT, the old flows going on.  Without one it stands in PROVE
while EXH is not proven.  S carries on (R28, R21, R36, R37, R52, R72 to R75, R90, R91).  The values of the counters that the loaded step's action does
not use are the model's choice, log entry 35. -/
def Obligations.StartLoadsAndBegins : Prop :=
  ∀ (s : State) (t : TubeId) (entry : Nat), s.calm t → s.monitor.latch = false → s.inRegion t entry = true →
    ((s.tube t).mode.isIdle = true ∨ (s.tube t).mode = .idlePurge) →
    let r := s.readRecord entry
    let woke : BitVec 15 := if (s.tube t).mode = .idlePurge then Event.wake.bit else 0
    let v := s.setQueue []
    let flows := recFlows r
    ∃ u, exec (.start (.station t) entry) s = .next u ∧ Replied (.station t) (ackFrame 0x04 []) s u ∧
      (u.tube t).loopOwner = none ∧ (u.tube t).loopLeft = 0 ∧ (u.tube t).setpoint = (s.tube t).setpoint ∧
      (u.tube t).settings = (s.tube t).settings ∧
      (∀ n, stepCheck s t entry r = some n →
        (u.tube t).mode = .held .invalid .notStarted ∧ (u.tube t).step = some (freshStep entry r (some n)) ∧
        (u.tube t).lastFault = some ⟨.stepInvalid, entry, some n⟩ ∧
        (u.tube t).events = (s.tube t).events |||
          ((woke ||| Event.fault.bit ||| Event.held.bit) &&& (s.tube t).settings.enables) ∧
        (u.tube t).gas = (s.tube t).gas ∧ (u.tube t).offsets = (s.tube t).offsets ∧
        u.eraseTube t = { v.eraseTube t with
          bankError := some ⟨.stepInvalid, some t, some entry, some n⟩
          bankEvents := s.bankEvents ||| BankEvent.errorRecorded.bit }) ∧
      (stepCheck s t entry r = none → s.monitor.hold = true →
        (u.tube t).mode = .held .bank .notStarted ∧ (u.tube t).step = some (freshStep entry r none) ∧
        (u.tube t).events = (s.tube t).events ||| ((woke ||| Event.held.bit) &&& (s.tube t).settings.enables) ∧
        (u.tube t).gas = (s.tube t).gas ∧ (u.tube t).offsets = (s.tube t).offsets ∧ u.eraseTube t = v.eraseTube t) ∧
      (stepCheck s t entry r = none → s.monitor.hold = false → (s.tube t).exhProof.proven = false →
        (u.tube t).offsets =
          (if recOffsetsMark r = 1 ∧ recAction r ≠ some .endRun then recOffsets r else (s.tube t).offsets) ∧
        (u.tube t).step = some (freshStep entry r none) ∧
        (recHasGas r = false ∨ s.grantsAtOnce t flows →
          (u.tube t).mode = .running .prove ∧
          (u.tube t).events = (s.tube t).events ||| (woke &&& (s.tube t).settings.enables) ∧
          (u.tube t).gas = (if recHasGas r then { grant := flows, command := flows, emergency := false }
            else (s.tube t).gas) ∧
          u.eraseTube t = v.eraseTube t) ∧
        (recHasGas r = true → ¬s.grantsAtOnce t flows →
          (u.tube t).mode = .running .acquire ∧
          (u.tube t).events = (s.tube t).events ||| ((woke ||| Event.gasWait.bit) &&& (s.tube t).settings.enables) ∧
          (u.tube t).gas = (s.tube t).gas ∧
          ∃ o : Bool, (o = true ↔ ∃ h, s.headerLimit h < s.onHeader t flows h) ∧
            u.eraseTube t = (s.setQueue
              [{ tube := t, amount := PerHeader.of (s.onHeader t flows), flows := flows, oversize := o }]).eraseTube t))

/-- The step that START loads and that its proofs let through enters EXECUTE: a SOAK as loaded; a RAMP by its direction, an upward one with
its ramp request, granted where COOLING is proven and C + P is within B, with the order ROTATE or the priorities a permutation of 0 to 3 as every
step keeps them (R115), else waiting with RAMP_WAIT; a PURGE with its grant and line 0 at
its high flow; a PUSH or PULL at its outer speed; a SYNC on a clear mark at the end of its list.
An END ends the run (R38, R40, R48, R55, R79, R90, R104, R107, R120).  The values of the counters that the loaded step's action does
not use are the model's choice, log entry 35. -/
def Obligations.StepsEnterExecute : Prop :=
  ∀ (s : State) (t : TubeId) (entry : Nat), s.calm t → s.monitor.latch = false → s.monitor.hold = false →
    s.inRegion t entry = true → ((s.tube t).mode.isIdle = true ∨ (s.tube t).mode = .idlePurge) →
    stepCheck s t entry (s.readRecord entry) = none → (s.tube t).exhProof.proven = true →
    let r := s.readRecord entry
    let x := s.tube t
    let st := freshStep entry r none
    let v := s.setQueue []
    ∃ u, exec (.start (.station t) entry) s = .next u ∧
      (recHasGas r = false → x.gas.command = zeroLines →
        (recAction r = some .soak → (u.tube t).mode = .running .execute ∧ (u.tube t).step = some st ∧
          (u.tube t).gas = x.gas ∧ u.eraseTube t = v.eraseTube t) ∧
        (recAction r = some .ramp → 10 * recTarget r < x.setpoint →
          (u.tube t).mode = .running .execute ∧ (u.tube t).step = some { st with rampDir := some .down } ∧
          (u.tube t).setpoint = x.setpoint ∧ u.eraseTube t = v.eraseTube t) ∧
        (recAction r = some .ramp → x.setpoint < 10 * recTarget r → s.powerInv → s.power.requests = [] →
          (u.tube t).mode = .running .execute ∧ (u.tube t).step = some { st with rampDir := some .up } ∧
          (u.tube t).setpoint = x.setpoint ∧
          (s.power.order = .rotate ∨ s.priorityInv →
            s.monitor.coolingProof.proven = true ∧ s.commitment + recRampPower r ≤ s.power.budget →
            u.power.grants = s.power.grants ++ [⟨t, recRampPower r⟩] ∧ u.power.requests = [] ∧ u.power.pointer = t) ∧
          (¬(s.monitor.coolingProof.proven = true ∧ s.commitment + recRampPower r ≤ s.power.budget) →
            u.power.grants = s.power.grants ∧ u.power.requests.map RampRequest.tube = [t] ∧
            u.power.requests.map RampRequest.amount = [recRampPower r] ∧
            (x.settings.enables.getLsbD 6 = true → (u.tube t).events.getLsbD 6 = true))) ∧
        (recAction r = some .push ∨ recAction r = some .pull →
          (∀ h, h ≠ .inert → s.normalGrant t h = 0) →
          (∃ z, s.freshZone t .loadEnd = some z ∧ distance z (({ x with offsets := if recOffsetsMark r = 1 then recOffsets r
            else x.offsets } : Tube).zoneSetpoint .loadEnd) ≤ x.settings.pushBand) →
          (u.tube t).mode = .running .execute ∧ (u.tube t).position = x.position ∧
          (u.tube t).step = some st ∧ st.speed = recOuterSpeed r ∧
          u.eraseTube t = v.eraseTube t) ∧
        (∀ m, recAction r = some .sync → m.num = recMarkWait r → (s.mark m).set = false → s.waitsOn t m = false →
          (u.tube t).mode = .running .execute ∧ (u.tube t).step = some st ∧
          u.eraseTube t = (v.setMark m { s.mark m with
            waiters := (s.mark m).waiters ++ [{ tube := t, consume := recConsume r == 1 }] }).eraseTube t) ∧
        (recAction r = some .endRun → recMarkSetMark r = 0 → s.hasRampGrant t = false → s.hasRampRequest t = false →
          RunEnded t st s u)) ∧
      (recAction r = some .purge → s.grantsAtOnce t (recFlows r) → x.flowProof.proven = true → x.sealProof.proven = true →
        (u.tube t).mode = .running .execute ∧ (u.tube t).step = some st ∧ st.purgePhase = .high ∧ st.phaseTime = 0 ∧
        st.pulse = 1 ∧ st.purgeHigh = recFlow r .l0 ∧ st.purgeLow = recOffFlow r ∧
        (u.tube t).gas = { grant := recFlows r, command := recFlows r, emergency := false } ∧
        u.eraseTube t = v.eraseTube t)

/-- HOLD on a RUNNING tube gives HELD (STATION) in its phase and changes nothing else of it but HELD; on a HELD tube it
changes nothing; in every other state but SETTLING (R26) it is refused BAD_STATE (R29). -/
def Obligations.HoldKeepsPhaseAndCounters : Prop :=
  ∀ (s : State) (t : TubeId), s.jobs = [] →
    (∀ ph, (s.tube t).mode = .running ph →
      Answered (.hold (.station t)) (.station t) (ackFrame 0x05 []) s (s.setTube t { s.tube t with
        mode := .held .station ph
        events := (s.tube t).events ||| (Event.held.bit &&& (s.tube t).settings.enables) })) ∧
    (∀ r ph, (s.tube t).mode = .held r ph →
      Answered (.hold (.station t)) (.station t) (ackFrame 0x05 []) s s) ∧
    ((s.tube t).mode.isRun = false → (s.tube t).mode.isSettling = false →
      Answered (.hold (.station t)) (.station t) (refuseFrame 0x05 .badState) s s)

/-- RESUME with the bank hold flag clear.  HELD (STATION): in ACQUIRE it goes on waiting, or moves to PROVE where the grant was given
while held; in PROVE and EXECUTE the step goes on as it was, and a SYNC in EXECUTE is judged: on a set mark it takes it and completes, on
a clear one it stands on its list.  HELD (FAULT), with EXH not proven: PROVE with proof time 0, the faulting counter 0 and the hold
flag clear, with its note pending even where the step faults again at once.  At NOT_STARTED, and from HELD (INVALID), the index is loaded
again: a step that passes begins, and one that fails gives the same failure again, with its note pending (R31, R8, R21, R36, R48, R163).  The values of the counters that the loaded step's action does
not use are the model's choice, log entry 35. -/
def Obligations.ResumeByHoldReason : Prop :=
  ∀ (s : State) (t : TubeId) (st : ActiveStep), s.jobs = [] → s.monitor.hold = false → (s.tube t).step = some st →
    let x := s.tube t
    let ack := ackFrame 0x06 []
    let fresh := fun failed => freshStep st.index (s.readRecord st.index) failed
    (x.mode = .held .station .acquire → s.hasGasEntry t = true →
      Answered (.resume (.station t)) (.station t) ack s (s.setMode t (.running .acquire))) ∧
    (x.mode = .held .station .acquire → s.hasGasEntry t = false → x.exhProof.proven = false →
      Answered (.resume (.station t)) (.station t) ack s (s.setTube t { x with
        mode := .running .prove, step := some { st with proofTime := 0 } })) ∧
    (x.mode = .held .station .prove → x.exhProof.proven = false →
      Answered (.resume (.station t)) (.station t) ack s (s.setMode t (.running .prove))) ∧
    (x.mode = .held .station .execute → recAction st.record ≠ some .sync →
      Answered (.resume (.station t)) (.station t) ack s (s.setMode t (.running .execute))) ∧
    (∀ m, x.mode = .held .station .execute → recAction st.record = some .sync → m.num = recMarkWait st.record →
      (s.mark m).set = false →
      Answered (.resume (.station t)) (.station t) ack s (if s.waitsOn t m then s.setMode t (.running .execute)
        else (s.setMark m { s.mark m with
          waiters := (s.mark m).waiters ++ [{ tube := t, consume := recConsume st.record == 1 }] }).setTube t { x with
            mode := .running .execute, step := some { st with syncWait := 0 } })) ∧
    (∀ m, x.mode = .held .station .execute → recAction st.record = some .sync → m.num = recMarkWait st.record →
      (s.mark m).set = true → recMarkSetMark st.record = 0 → s.hasRampGrant t = false → s.hasRampRequest t = false →
      s.completes t st → (∃ n, stepCheck s t (x.linkIndex st) (s.readRecord (x.linkIndex st)) = some n) →
      ∃ u, exec (.resume (.station t)) s = .next u ∧ Replied (.station t) ack s u ∧
        (u.mark m).set = !(recConsume st.record == 1) ∧ u.waitsOn t m = false ∧
        (u.tube t).mode = .held .invalid .notStarted ∧ (u.tube t).step.map ActiveStep.index = some (x.linkIndex st)) ∧
    (∀ ph, x.mode = .held .fault ph → ph ≠ .notStarted → x.exhProof.proven = false →
      Answered (.resume (.station t)) (.station t) ack s (s.setTube t { x with
        mode := .running .prove
        step := some { st with
          proofTime := 0
          holdFlag := false
          flowLoss := if x.lastFault.map FaultRecord.kind = some .gasLost then 0 else st.flowLoss
          zoneStale := if x.lastFault.map FaultRecord.kind = some .zoneStale then 0 else st.zoneStale
          bandHold := if x.lastFault.map FaultRecord.kind = some .bandTimeout then 0 else st.bandHold
          syncWait := if x.lastFault.map FaultRecord.kind = some .syncTimeout then 0 else st.syncWait
          settleCount := if x.lastFault.map FaultRecord.kind = some .pushStall then 0 else st.settleCount
          followCount := if x.lastFault.map FaultRecord.kind = some .pushStall then 0 else st.followCount } })) ∧
    (∀ ph, x.mode = .held .fault ph → ph ≠ .notStarted →
      ∃ u, exec (.resume (.station t)) s = .next u ∧ Replied (.station t) ack s u ∧
        (u.port (.station t)).notePending = true) ∧
    (∀ rs ph, x.mode = .held rs ph → (ph = .notStarted ∨ rs = .invalid) →
      (stepCheck s t st.index (s.readRecord st.index) = none → recHasGas (s.readRecord st.index) = false →
        x.exhProof.proven = false →
        Answered (.resume (.station t)) (.station t) ack s (s.setTube t { x with
          mode := .running .prove
          step := some (fresh none)
          offsets := if recOffsetsMark (s.readRecord st.index) = 1 ∧
              recAction (s.readRecord st.index) ≠ some .endRun then recOffsets (s.readRecord st.index) else x.offsets })) ∧
      ∀ n, stepCheck s t st.index (s.readRecord st.index) = some n →
        ∃ u, exec (.resume (.station t)) s = .next u ∧ Replied (.station t) ack s u ∧
          (u.port (.station t)).notePending = true ∧
          u.erasePorts = ({ s.setTube t { x with
            mode := .held .invalid .notStarted
            step := some (fresh (some n))
            lastFault := some ⟨.stepInvalid, st.index, some n⟩
            events := x.events ||| ((Event.fault.bit ||| Event.held.bit) &&& x.settings.enables) } with
            bankError := some ⟨.stepInvalid, some t, some st.index, some n⟩
            bankEvents := s.bankEvents ||| BankEvent.errorRecorded.bit } : State).erasePorts)

/-- SKIP completes the step of a RUNNING or HELD tube: the queued request is withdrawn and the grants kept, the tube leaves every waiter
list, mark_set sets its mark, STEP_DONE is raised where notify asks it, the loop is evaluated by the single-level rule, and the link target is
loaded.  Where its check passes, a tube that was HELD stays HELD at NOT_STARTED, BANK if it was BANK and otherwise STATION, from HELD
(INVALID) too where its completion fields hold, and one that was RUNNING enters HELD (BANK) with the bank hold flag set, or else begins; where
it fails, HELD (INVALID) with FAULT and HELD raised, from HELD (BANK) too, which is the model's reading, log entry 14.  SKIP of an END ends the
run.  In HELD (INVALID) with a completion field that fails SKIP is refused BAD_STATE (R17, R21, R32, R33, R40, R41).  The values of the counters that the loaded step's action does
not use are the model's choice, log entry 35. -/
def Obligations.SkipCompletesAndLinks : Prop :=
  ∀ (s : State) (t : TubeId) (st : ActiveStep), s.jobs = [] → (s.tube t).step = some st →
    let x := s.tube t
    let i := x.linkIndex st
    let r := s.readRecord i
    let fresh := freshStep i r none
    let v := (s.setQueue []).markedBy t st
    (∀ ph, x.mode = .held .invalid ph → ¬s.completes t st →
      Answered (.skip (.station t)) (.station t) (refuseFrame 0x07 .badState) s s) ∧
    (s.calm t → s.completes t st → s.hasRampGrant t = false → s.hasRampRequest t = false → s.marksQuietly t st →
      (recAction st.record ≠ some .endRun → stepCheck s t i r = none →
        (∀ rs ph, x.mode = .held rs ph →
          Answered (.skip (.station t)) (.station t) (ackFrame 0x07 []) s
            (v.setTube t (x.linked st fresh (.held (if rs = .bank then .bank else .station) .notStarted) 0))) ∧
        (∀ ph, x.mode = .running ph → s.monitor.hold = true →
          Answered (.skip (.station t)) (.station t) (ackFrame 0x07 []) s
            (v.setTube t (x.linked st fresh (.held .bank .notStarted) Event.held.bit))) ∧
        (∀ ph, x.mode = .running ph → s.monitor.hold = false → recHasGas r = false → x.exhProof.proven = false →
          Answered (.skip (.station t)) (.station t) (ackFrame 0x07 []) s
            (v.setTube t { x.linked st fresh (.running .prove) 0 with
              offsets := if recOffsetsMark r = 1 ∧ recAction r ≠ some .endRun then recOffsets r else x.offsets }))) ∧
      (∀ n, recAction st.record ≠ some .endRun → stepCheck s t i r = some n → x.mode.isRun = true →
        Answered (.skip (.station t)) (.station t) (ackFrame 0x07 []) s
          { v.setTube t { x.linked st (freshStep i r (some n)) (.held .invalid .notStarted)
              (Event.fault.bit ||| Event.held.bit) with lastFault := some ⟨.stepInvalid, i, some n⟩ } with
            bankError := some ⟨.stepInvalid, some t, some i, some n⟩
            bankEvents := s.bankEvents ||| BankEvent.errorRecorded.bit }) ∧
      (recAction st.record = some .endRun → x.mode.isRun = true → s.headerInv → x.gas.emergency = false →
        x.gas.command.get .l0 ≤ x.gas.grant.get .l0 →
        ∃ u, exec (.skip (.station t)) s = .next u ∧ Replied (.station t) (ackFrame 0x07 []) s u ∧ RunEnded t st s u))

/-- ABORT on a RUNNING or HELD tube: ABORTING with the emergency purge time, the emergency grant e as the least of E_flow, the
line 0 maximum and Q_INERT − G_INERT without the tube's own grant, every other line 0, no ramp grant, request or waiter entry,
the position taken (with no reading P is kept: the model's choice, log entry 8), PURGE_DEGRADED where e falls short; S, offsets, copy and
records kept.  In ABORTING it changes nothing (R34, R84, R96). -/
def Obligations.AbortFloodsTheTube : Prop :=
  ∀ (s : State) (t : TubeId), s.calm t →
    ((s.tube t).mode.isRun = true →
      let e := min s.gas.emergencyFlow
        (min (s.lineMaximum t .l0) (s.gas.capacity.inert - (s.grantSum .inert - s.grantOn t .inert)))
      ∃ u, exec (.abort (.station t)) s = .next u ∧ Replied (.station t) (ackFrame 0x08 []) s u ∧
        (u.tube t).mode = .aborting s.bank.emergencyTime ∧ (u.tube t).step = (s.tube t).step ∧
        (u.tube t).gas = { grant := { zeroLines with l0 := e }, command := { zeroLines with l0 := e }, emergency := true } ∧
        u.gas.queue = [] ∧ u.hasRampGrant t = false ∧ u.hasRampRequest t = false ∧
        (∀ m, u.waitsOn t m = false) ∧
        (u.tube t).position = (match (s.link.loaders.get t).reading with
          | some r => min r.actual (s.tube t).settings.stroke
          | none => (s.tube t).position) ∧
        (u.tube t).events = (s.tube t).events |||
          ((if e < s.gas.emergencyFlow then Event.purgeDegraded.bit else 0) &&& (s.tube t).settings.enables) ∧
        (u.tube t).setpoint = (s.tube t).setpoint ∧ (u.tube t).offsets = (s.tube t).offsets ∧
        (u.tube t).lastFault = (s.tube t).lastFault ∧ (u.tube t).settings = (s.tube t).settings ∧
        u.bankError = s.bankError ∧
        ∀ x, x ≠ t → (u.tube x).mode = (s.tube x).mode ∧ (u.tube x).gas = (s.tube x).gas ∧
          (u.tube x).step = (s.tube x).step) ∧
    ∀ n, (s.tube t).mode = .aborting n →
      Answered (.abort (.station t)) (.station t) (ackFrame 0x08 []) s s

/-- SERVICE_IN, from the tube's station or from the facility, takes an OUT_OF_SERVICE tube to SETTLING with 2.0 s; its hold
reserve joins the commitment, and k and every zone ceiling are computed anew; stated with no ramp request or grant standing
(R25, R100, R111, R113). -/
def Obligations.ServiceInSettles : Prop :=
  ∀ (s : State) (p : Port) (arg : Option Nat) (t : TubeId), s.jobs = [] → (s.tube t).mode = .outOfService →
    ((p = .station t ∧ arg = none) ∨ (p = .facility ∧ arg = some t.num)) → s.power.requests = [] → s.power.grants = [] →
    let c := s.reserveSum + s.power.holdReserve.get t
    let k := if c ≤ s.power.budget then 1000 else 1000 * s.power.budget / c
    ∃ u, exec (.serviceIn p arg) s = .next u ∧ Replied p (ackFrame 0x0A []) s u ∧
      u.tubes = s.tubes.set t { s.tube t with mode := .settling 20 } ∧ u.commitment = c ∧
      u.power = { s.power with
        throttle := k
        ceiling := PerTube.of fun x => PerZone.of fun z =>
          if (x = t ∨ (s.tube x).mode ≠ .outOfService) ∧ (s.tube x).otcProof.proven = true then
            (s.power.cmax.get x).get z * k / 1000
          else 0 } ∧
      u.gas = s.gas ∧ u.marks = s.marks ∧ u.monitor = s.monitor ∧ u.link = s.link ∧ u.bankError = s.bankError

/-- SERVICE_OUT, from the tube's station or from the facility: the tube is OUT_OF_SERVICE with its gas released, its request
withdrawn, its record, loop register and events cleared, its ceilings 0 and its five nodes' safe exchanges due; S, offsets, P, last
fault record and settings are kept; stated where no tube outside RUNNING and HELD holds a ramp grant (`modeInv`) (R27, R116, R149). -/
def Obligations.ServiceOutReleases : Prop :=
  ∀ (s : State) (p : Port) (arg : Option Nat) (t : TubeId), s.calm t → s.modeInv →
    ((s.tube t).mode.isIdle = true ∨ (s.tube t).mode = .idlePurge ∨ (s.tube t).mode.isSettling = true) →
    ((p = .station t ∧ arg = none) ∨ (p = .facility ∧ arg = some t.num)) →
    ∃ u, exec (.serviceOut p arg) s = .next u ∧ Replied p (ackFrame 0x09 []) s u ∧
      (u.tube t).mode = .outOfService ∧ (u.tube t).gas = TubeGas.zero ∧ u.gas.queue = [] ∧
      (u.tube t).step = none ∧ (u.tube t).loopOwner = none ∧ (u.tube t).loopLeft = 0 ∧ (u.tube t).events = 0 ∧
      (u.tube t).taken = false ∧ (u.tube t).setpoint = (s.tube t).setpoint ∧
      (u.tube t).offsets = (s.tube t).offsets ∧ (u.tube t).position = (s.tube t).position ∧
      (u.tube t).lastFault = (s.tube t).lastFault ∧ (u.tube t).settings = (s.tube t).settings ∧
      (∀ z, (u.power.ceiling.get t).get z = 0) ∧
      (∀ n, n ∈ [NodeId.zone t .loadEnd, .zone t .centre, .zone t .sourceEnd, .flow t, .loader t] →
        u.nodeStatus n = { s.nodeStatus n with safeDue := true }) ∧
      (∀ n, n ∉ [NodeId.zone t .loadEnd, .zone t .centre, .zone t .sourceEnd, .flow t, .loader t] →
        u.nodeStatus n = s.nodeStatus n) ∧
      ∀ x, x ≠ t → (u.tube x).mode = (s.tube x).mode ∧ (u.tube x).gas = (s.tube x).gas

/-! ### Events, marks, the error record, bank hold and bank stop -/

/-- CLEAR_EVENTS, CLEAR_BANK_EVENTS, CLEAR_MARK and CLEAR_ERROR take away what they name, show what is left or what stood, and
change nothing else but what activity does to the station's own tube: from the facility, and from a station in any state but SETTLING, IDLE
with a running timer and IDLE_PURGE among them.  A mark's waiters stay on its list.  A bit outside the kinds or a mark above 7 is refused
BAD_VALUE, CLEAR_MARK from a station in SETTLING NOT_READY (R50, R151, R153, R160, R161).  The kind byte of an empty error record is the
model's choice, log entry 9. -/
def Obligations.ClearsRemoveWhatTheyName : Prop :=
  ∀ s : State, s.jobs = [] →
    (∀ t, (s.tube t).mode.isSettling = false →
      (∀ kinds, kinds < 2 ^ 15 →
        let left := (s.tube t).events &&& ~~~(BitVec.ofNat 15 kinds)
        Taken (.clearEvents (.station t) kinds) (.station t) (ackFrame 0x0C (le 2 left.toNat)) s
          (s.setTube t { s.tube t with events := left })) ∧
      ∀ kinds, 2 ^ 15 ≤ kinds →
        Answered (.clearEvents (.station t) kinds) (.station t) (refuseFrame 0x0C .badValue) s s) ∧
    (∀ kinds, kinds < 2 ^ 7 →
      let left := s.bankEvents &&& ~~~(BitVec.ofNat 7 kinds)
      Answered (.clearBankEvents .facility kinds) .facility (ackFrame 0x25 (le 1 left.toNat)) s
        { s with bankEvents := left }) ∧
    (∀ kinds, 2 ^ 7 ≤ kinds →
      Answered (.clearBankEvents .facility kinds) .facility (refuseFrame 0x25 .badValue) s s) ∧
    (∀ p, s.portSettling p = false →
      (∀ m : MarkId, Taken (.clearMark p m.num) p (ackFrame 0x0D []) s
        (s.setMark m { set := false, setter := none, waiters := (s.mark m).waiters })) ∧
      (∀ n, 8 ≤ n → Answered (.clearMark p n) p (refuseFrame 0x0D .badValue) s s) ∧
      Taken (.clearError p) p (ackFrame 0x0E (joinLe (errorFields s.bankError))) s { s with bankError := none }) ∧
    ∀ x n, (s.tube x).mode.isSettling = true →
      Answered (.clearMark (.station x) n) (.station x) (refuseFrame 0x0D .notReady) s s

/-- BANK_HOLD sets the bank hold flag and changes nothing else (R143).  BANK_RELEASE: refused BAD_STATE with the latch set and ESTOP not proven; otherwise latch and flag are cleared, no run is
restarted, and every HELD (BANK) tube enters RUNNING and begins its step: without a gas_set it stands in PROVE while its EXH is
not proven (R45, R142). -/
def Obligations.BankHoldAndBankRelease : Prop :=
  ∀ s : State, s.jobs = [] →
    Answered (.bankHold .facility) .facility (ackFrame 0x21 []) s { s with monitor := { s.monitor with hold := true } } ∧
    (s.monitor.latch = true → s.monitor.estopProof.proven = false →
      Answered (.bankRelease .facility) .facility (refuseFrame 0x22 .badState) s s) ∧
    ((s.monitor.latch = false ∨ s.monitor.estopProof.proven = true) →
      ((∀ t ph, (s.tube t).mode ≠ .held .bank ph) →
        Answered (.bankRelease .facility) .facility (ackFrame 0x22 []) s
          { s with monitor := { s.monitor with latch := false, hold := false } }) ∧
      ((∀ t ph, (s.tube t).mode = .held .bank ph → (s.tube t).exhProof.proven = false ∧
          ∃ st, (s.tube t).step = some st ∧ recHasGas st.record = false) →
        ∃ u, exec (.bankRelease .facility) s = .next u ∧ Replied .facility (ackFrame 0x22 []) s u ∧
          u.monitor = { s.monitor with latch := false, hold := false } ∧
          ∀ t, (∀ ph, (s.tube t).mode = .held .bank ph → (u.tube t).mode = .running .prove) ∧
            ((∀ ph, (s.tube t).mode ≠ .held .bank ph) → u.tube t = s.tube t)))

/-- BANK_STOP sets the latch and trips every RUNNING or HELD tube with kind BANK_STOP into ABORTING; every other tube keeps its
state; stated with an empty gas queue, and where no tube outside RUNNING and HELD holds a ramp grant (`modeInv`) (R43, R46, R141). -/
def Obligations.BankStopTripsEveryRun : Prop :=
  ∀ s : State, s.jobs = [] → s.monitor.flowSettleTime ≠ 0 → s.gas.queue = [] → s.modeInv →
    ∃ u, exec (.bankStop .facility) s = .next u ∧ Replied .facility (ackFrame 0x23 []) s u ∧ u.monitor.latch = true ∧
      u.monitor.hold = s.monitor.hold ∧
      (∀ t st, (s.tube t).mode.isRun = true → (s.tube t).step = some st →
        (u.tube t).mode = .aborting s.bank.emergencyTime ∧
        (u.tube t).lastFault = some ⟨.bankStop, st.index, none⟩ ∧ (u.tube t).step = some st ∧
        (u.tube t).setpoint = (s.tube t).setpoint ∧
        (u.tube t).gas.emergency = true ∧ ∀ l, l ≠ .l0 → (u.tube t).gas.command.get l = 0) ∧
      ∀ t, (s.tube t).mode.isRun = false → u.tube t = s.tube t

/-! ### Settings -/

/-- A numeric setting takes the value clamped to its range, its ACK carries the value taken, and no other setting changes
(R158, R100, R114, R37, R62, R68, R80, R82, R84, R87).  The rows: SETTING_WRITE, STANDBY_FLOW_WRITE, IDLE_FLOW_WRITE,
IDLE_PERIOD_WRITE, PUSH_BAND_WRITE, SEAL_BAND_WRITE, DEBOUNCE_WRITE, COOLING_THRESHOLD_WRITE, FLOW_TOLERANCE_WRITE, CAPACITY_WRITE,
INERT_RESERVE_WRITE, BUDGET_WRITE, HOLD_RESERVE_WRITE, CMAX_WRITE. -/
def Obligations.NumericSettingsClampAndKeepOthers : Prop :=
  ∀ (s : State) (i : Instr) (p : Port) (bank : Bool) (item index v lo hi w : Nat) (x : Setting),
    i.asCmd = some (p, .set bank item index [v]) → settingOf? item index = some x → itemWidths? item = some [w] →
    x.range? = some (lo, hi) → ((codeClass? (Cmd.set bank item index [v]).code).any fun k => k.allows p) = true →
    x.writable p bank = true → s.portSettling p = false →
    ∃ u, exec i s = .next u ∧
      Replied p (ackFrame (if bank then 0x20 else 0x0B) (le 1 item ++ le 1 index ++ le w (clampTo lo hi v))) s u ∧
      u.settingValue x = [clampTo lo hi v] ∧ (∀ y, y ≠ x → u.settingValue y = s.settingValue y) ∧
      u.profile = s.profile ∧ u.link = s.link

/-- LINE_CONFIGURATION_WRITE, TMAX_WRITE and STROKE_WRITE are taken while the tube is OUT_OF_SERVICE and refused TUBE_ACTIVE
elsewhere; line 0 stays INERT; S comes down to 10 × the new Tmax; the stroke is not below P (R51, R70, R117). -/
def Obligations.HardwareSettingsOutOfServiceOnly : Prop :=
  ∀ (s : State) (t : TubeId) (l : LineId) (header maximum v : Nat), s.jobs = [] →
    ((s.tube t).mode ≠ .outOfService → (s.tube t).mode.isSettling = false →
      Answered (.lineConfigurationWrite (.station t) t l header maximum) (.station t) (refuseFrame 0x0B .tubeActive) s s ∧
      Answered (.tmaxWrite (.station t) t v) (.station t) (refuseFrame 0x0B .tubeActive) s s ∧
      Answered (.strokeWrite (.station t) t v) (.station t) (refuseFrame 0x0B .tubeActive) s s) ∧
    ((s.tube t).mode = .outOfService →
      ((headerChoice? header = none ∨ l = .l0 ∧ header ≠ 0) →
        Answered (.lineConfigurationWrite (.station t) t l header maximum) (.station t) (refuseFrame 0x0B .badValue) s s) ∧
      (∀ h, headerChoice? header = some h → (l = .l0 → header = 0) →
        Answered (.lineConfigurationWrite (.station t) t l header maximum) (.station t)
          (ackFrame 0x0B (le 1 0x42 ++ le 1 (16 * t.num + l.num) ++ le 1 header ++ le 2 (min maximum 50000))) s
          (s.modSettings t fun x => { x with lines := x.lines.set l { header := h, maximum := min maximum 50000 } })) ∧
      Answered (.tmaxWrite (.station t) t v) (.station t)
        (ackFrame 0x0B (le 1 0x43 ++ le 1 (16 * t.num) ++ le 2 (clampTo 3000 13000 v))) s
        (s.setTube t { s.tube t with
          settings := { (s.tube t).settings with tmax := clampTo 3000 13000 v }
          setpoint := min (s.tube t).setpoint (10 * clampTo 3000 13000 v) }) ∧
      ∃ u, exec (.strokeWrite (.station t) t v) s = .next u ∧
        (u.tube t).settings = { (s.tube t).settings with stroke := clampTo (max 1 (s.tube t).position) 30000 v } ∧
        (u.tube t).position = (s.tube t).position ∧ (u.tube t).mode = .outOfService)

/-- Enumerated settings and sets take a value that names a choice, as written and with nothing else changed among the settings, and refuse
any other BAD_VALUE; a source write where the tube is in service is refused TUBE_ACTIVE, of a bank proof with the latch clear BAD_STATE (R24,
R42, R93, R115, R131, R138, R154, R158; that a source write is judged by the tube's state or the latch before its value, so that it is refused so
whatever the value, is the model's reading, log entry 16, and so is that a set with a bit outside the kinds names no choice, log entry 18).  An
EXH threshold above 5000 is clamped first; one that would cross the other is refused BAD_VALUE (R133).  The rows: ADMISSION_POLICY_WRITE,
RAMP_ORDER_WRITE, EVENT_ENABLES_WRITE, MASK_WRITE, PROOF_SOURCE_WRITE, EXH_THRESHOLD_WRITE, and SETTING_WRITE of fault_action, the edge
enables and those items. -/
def Obligations.ChoicesTakenOrRefused : Prop :=
  (∀ (s : State) (i : Instr) (p : Port) (bank : Bool) (item index : Nat) (vs ws : List Nat) (x : Setting)
      (valid : List Nat → Bool),
    s.jobs = [] → i.asCmd = some (p, .set bank item index vs) → settingOf? item index = some x →
    itemWidths? item = some ws → vs.length = ws.length → x.choices? = some valid →
    ((codeClass? (Cmd.set bank item index vs).code).any fun k => k.allows p) = true → x.writable p bank = true →
    s.portSettling p = false →
    let code : Byte := if bank then 0x20 else 0x0B
    (∀ why, s.choiceBlocked x = some why → Answered i p (refuseFrame code why) s s) ∧
    (s.choiceBlocked x = none → valid vs = false → Answered i p (refuseFrame code .badValue) s s) ∧
    (s.choiceBlocked x = none → valid vs = true → ∃ u, exec i s = .next u ∧
      Replied p (ackFrame code (le 1 item ++ le 1 index ++ joinLe (ws.zip vs))) s u ∧
      u.settingValue x = vs ∧ (∀ y, y ≠ x → u.settingValue y = s.settingValue y) ∧ u.profile = s.profile ∧
      u.link = s.link)) ∧
  ∀ (s : State) (t : TubeId) (high : Bool) (v : Nat), s.jobs = [] → (s.tube t).mode.isSettling = false →
    let x := (s.tube t).settings
    let c := min v 5000
    ((if high then c < x.exhLow else x.exhHigh < c) →
      Answered (.exhThresholdWrite (.station t) t high v) (.station t) (refuseFrame 0x0B .badValue) s s) ∧
    (¬(if high then c < x.exhLow else x.exhHigh < c) →
      ∃ u, exec (.exhThresholdWrite (.station t) t high v) s = .next u ∧
        Replied (.station t) (ackFrame 0x0B (le 1 0x53 ++ le 1 (16 * t.num + if high then 1 else 0) ++ le 2 c)) s u ∧
        u.settingValue (.exhThreshold t high) = [c] ∧
        ∀ y, y ≠ .exhThreshold t high → u.settingValue y = s.settingValue y)

/-- A capacity written below the grant sum scales every line grant and command on the header by k, and on INERT the phase flows of a PURGE
that runs on its grant (R81; which tubes those are is the model's reading, log entry 12), takes the value, records
HEADER_CUT, raises FLOW_CUT and PURGE_DEGRADED, and touches no other header's lines; stated with an empty gas queue and no tube
in PROVE (R98, R99). -/
def Obligations.CapacityCutScalesTheHeader : Prop :=
  ∀ (s : State) (h : Header) (q : Nat), s.jobs = [] → s.monitor.flowSettleTime ≠ 0 → s.gas.queue = [] →
    (∀ t, (s.tube t).mode ≠ .running .prove) → q < s.grantSum h → q ≤ 200000 →
    let k := 1000 * q / s.grantSum h
    ∃ u, exec (.capacityWrite .facility h q) s = .next u ∧ u.gas = { s.gas with capacity := s.gas.capacity.set h q } ∧
      (∀ t l,
        (u.tube t).gas.grant.get l = (if s.lineHeader t l = some h then (s.tube t).gas.grant.get l * k / 1000
          else (s.tube t).gas.grant.get l) ∧
        (u.tube t).gas.command.get l = (if s.lineHeader t l = some h then (s.tube t).gas.command.get l * k / 1000
          else (s.tube t).gas.command.get l)) ∧
      (∀ t, (u.tube t).step = (if h = .inert ∧ (s.tube t).mode.isRun = true ∧ (s.tube t).action = some .purge ∧
          (s.tube t).mode.phase? ≠ some .notStarted then
        (s.tube t).step.map fun st =>
          { st with purgeHigh := st.purgeHigh * k / 1000, purgeLow := st.purgeLow * k / 1000 }
        else (s.tube t).step)) ∧
      u.grantSum h ≤ q ∧
      u.bankError = some ⟨.headerCut, none, none, none⟩ ∧
      u.bankEvents = s.bankEvents ||| BankEvent.headerCut.bit ||| BankEvent.errorRecorded.bit ∧
      ∀ t, (u.tube t).mode = (s.tube t).mode ∧ (u.tube t).lastFault = (s.tube t).lastFault ∧
        (u.tube t).events = (s.tube t).events |||
          (((if 0 < s.normalGrant t h then Event.flowCut.bit else 0) |||
            (if h = .inert ∧ 0 < s.emergencyGrant t then Event.purgeDegraded.bit else 0)) &&&
              (s.tube t).settings.enables)

/-- A budget written below the commitment revokes ramp grants, youngest first, until C is within B or none is left; each revoked request
rejoins the set at its end with its amount, RAMP_WAIT raised for its tube and GRANT_REVOKED for the bank; then k is computed anew from C,
with THROTTLE_ON or THROTTLE_OFF where it leaves or reaches 1000; with COOLING not proven the pass that follows grants nothing, so exactly
the older grants are left (R100, R106, R109, R111, R112).  Nothing of a tube but its events changes. -/
def Obligations.BudgetCutRevokesYoungestFirst : Prop :=
  ∀ (s : State) (v : Nat), s.jobs = [] → (s.power.grants.map RampGrant.tube).Nodup → s.power.throttle ≤ 1000 →
    let b := min v 20000
    let held := fun n => s.reserveSum + ((s.power.grants.take n).map RampGrant.amount).sum
    ∃ n u, exec (.budgetWrite .facility v) s = .next u ∧
      Replied .facility (ackFrame 0x20 ([0x18, 0] ++ le 2 b)) s u ∧ u.power.budget = b ∧
      n ≤ s.power.grants.length ∧ (n = 0 ∨ held n ≤ b) ∧ (∀ m, n < m → m ≤ s.power.grants.length → b < held m) ∧
      (∃ later, u.power.grants = s.power.grants.take n ++ later) ∧ (u.power.grants = [] ∨ u.commitment ≤ b) ∧
      (∀ g ∈ s.power.grants.drop n, (s.tube g.tube).settings.enables.getLsbD 6 = true →
        (u.tube g.tube).events.getLsbD 6 = true) ∧
      (u.bankEvents.getLsbD 3 = true ↔ s.bankEvents.getLsbD 3 = true ∨ n < s.power.grants.length) ∧
      u.power.throttle = (if held n ≤ b then 1000 else 1000 * b / held n) ∧
      (u.bankEvents.getLsbD 1 = true ↔ s.bankEvents.getLsbD 1 = true ∨ s.power.throttle = 1000 ∧ b < held n) ∧
      (u.bankEvents.getLsbD 2 = true ↔ s.bankEvents.getLsbD 2 = true ∨ s.power.throttle < 1000 ∧ held n ≤ b) ∧
      (s.monitor.coolingProof.proven = false →
        u.power.grants = s.power.grants.take n ∧
        u.power.requests.map (fun q => (q.tube, q.amount)) =
          s.power.requests.map (fun q => (q.tube, q.amount)) ++
            (s.power.grants.drop n).reverse.map fun g => (g.tube, g.amount)) ∧
      ∀ t, { u.tube t with events := (s.tube t).events } = s.tube t

/-- A standby flow written in IDLE, at or below the tube's INERT grant, is commanded at once; an idle flow in IDLE_PURGE likewise;
stated with an empty gas queue (R82, R83, R90). -/
def Obligations.LowerIdleFlowsTakenAtOnce : Prop :=
  ∀ (s : State) (t : TubeId) (v : Nat), s.jobs = [] → s.gas.queue = [] → s.headerInv →
    (s.tube t).gas.emergency = false → min v (min 50000 (s.lineMaximum t .l0)) ≤ s.normalGrant t .inert →
    s.monitor.flowSettleTime ≠ 0 → (s.tube t).settings.activityMask = 0 → (s.tube t).settings.wakeMask = 0 →
    let g := { zeroLines with l0 := min v (min 50000 (s.lineMaximum t .l0)) }
    ((s.tube t).mode.isIdle = true → ∃ u, exec (.standbyFlowWrite (.station t) t v) s = .next u ∧
      (u.tube t).gas = { grant := g, command := g, emergency := false } ∧ (u.tube t).mode = (s.tube t).mode ∧
      ∀ x, x ≠ t → u.tube x = s.tube x) ∧
    ((s.tube t).mode = .idlePurge → ∃ u, exec (.idleFlowWrite (.station t) t v) s = .next u ∧
      (u.tube t).gas = { grant := g, command := g, emergency := false } ∧ (u.tube t).mode = .idlePurge ∧
      ∀ x, x ≠ t → u.tube x = s.tube x)

/-- PORT_COMMAND activity of an accepted station command, on the state `v` that the command leaves and with no other act to follow on it
than its own tube's gas grant and PROVE: it loads a running timer afresh by the activity mask, wakes the tube from IDLE_PURGE by the wake
mask, and without the kind in the mask, or in another state, does nothing; a refused command changes nothing at all (R151, R153). -/
def Obligations.AcceptedCommandIsActivity : Prop :=
  ∀ (s : State) (t : TubeId) (i : Instr) (c : Cmd), s.jobs = [] → i.asCmd = some (.station t, c) →
    let code := BitVec.ofNat 8 c.code
    (∀ why, s.judgeCommand (.station t) c = .error why → Answered i (.station t) (refuseFrame code why) s s) ∧
    ∀ v data, s.judgeCommand (.station t) c = .ok (v, data) → (∀ j ∈ v.jobs, j = .granted t ∨ j = .judge t) →
      let x := v.tube t
      let w : State := { v with jobs := [] }
      let timer := if x.settings.idlePeriod = 0 then none else some (60 * x.settings.idlePeriod)
      (∀ n, x.mode = .idle (some n) → Answered i (.station t) (ackFrame code data) s
        (if x.settings.activityMask.getLsbD 0 then w.setMode t (.idle timer) else w)) ∧
      (x.mode = .idle none ∨ x.mode = .outOfService → Answered i (.station t) (ackFrame code data) s w) ∧
      (x.mode.isRun = true ∨ x.mode.isAborting = true → v.jobs = [] → Answered i (.station t) (ackFrame code data) s w) ∧
      (x.mode = .idlePurge → x.settings.wakeMask.getLsbD 0 = false →
        Answered i (.station t) (ackFrame code data) s w) ∧
      (x.mode = .idlePurge → x.settings.wakeMask.getLsbD 0 = true → w.calm t →
        ∃ u, exec i s = .next u ∧ Replied (.station t) (ackFrame code data) s u ∧ (u.tube t).mode = .idle timer ∧
          (u.tube t).setpoint = x.setpoint ∧
          (x.settings.enables &&& Event.wake.bit ≠ 0 → (u.tube t).events &&& Event.wake.bit ≠ 0) ∧
          (v.jobs = [] → w.grantsAtOnce t { zeroLines with l0 := min x.settings.standbyFlow (w.lineMaximum t .l0) } →
            (u.tube t).gas.command = { zeroLines with l0 := min x.settings.standbyFlow (w.lineMaximum t .l0) }) ∧
          ∀ y, y ≠ t → u.tube y = w.tube y)

/-! ### Ticks -/

/-- A ramp tick of a RUNNING tube in EXECUTE on which no fault monitor ends the step: an advancing RAMP moves S by
(A + rate) div 60 in 0.01 °C and keeps the remainder as its accumulator, an advancing SOAK counts the second, a held one keeps S,
accumulator and count, sets its hold flag and raises RAMP_HELD where the flag was clear; a RAMP that reaches its target leaves S
exactly at the target.  A RAMP tick that does not advance keeps S and the accumulator also where a fault monitor or the band limit ends the
step on it, and a ramp tick of a HELD tube leaves the state as it is (R56 to R59, R61, R62, R65, R80).  That the tick which reaches the target
does not move S again in the step linked to is the model's choice, log entry 38. -/
def Obligations.RampTickAdvancesOrHolds : Prop :=
  (∀ (s : State) (t : TubeId) (r : HoldReason) (ph : Phase), s.jobs = [] → (s.tube t).mode = .held r ph →
    exec (.rampTick t) s = .next s) ∧
  ∀ (s : State) (t : TubeId) (st : ActiveStep), s.jobs = [] → (s.tube t).mode = .running .execute →
    (s.tube t).step = some st →
    (recAction st.record = some .ramp → s.advancing t st = false → ∃ u, exec (.rampTick t) s = .next u ∧
      (u.tube t).setpoint = (s.tube t).setpoint ∧ (u.tube t).step.map ActiveStep.rampAcc = some st.rampAcc) ∧
    (s.monitorEnds t = false →
    let x := s.tube t
    let target := 10 * recTarget st.record
    let inc := (st.rampAcc + recRate st.record) / 60
    let watched : ActiveStep := { st with
      flowLoss := if x.flowProof.proven = false ∧ x.anyCommanded = true then st.flowLoss + 1 else 0
      zoneStale := if s.anyZoneStale t = true then st.zoneStale + 1 else 0 }
    (∀ d, recAction st.record = some .ramp → st.rampDir = some d → s.advancing t st = true →
      (if d = .up then x.setpoint + inc < target else target + inc < x.setpoint) →
      ∃ u, exec (.rampTick t) s = .next u ∧ u.erasePorts = (s.setTube t { x with
        setpoint := if d = .up then x.setpoint + inc else x.setpoint - inc
        step := some { watched with
          rampAcc := (st.rampAcc + recRate st.record) % 60
          holdFlag := false
          bandHold := if recBand st.record = 0 then st.bandHold else 0 } }).erasePorts) ∧
    (∀ d, recAction st.record = some .ramp → st.rampDir = some d → s.advancing t st = true →
      (if d = .up then target ≤ x.setpoint + inc else x.setpoint ≤ target + inc) →
      ∃ u, exec (.rampTick t) s = .next u ∧ (u.tube t).setpoint = target) ∧
    (recAction st.record = some .soak → s.advancing t st = true → st.soakCount + 1 ≠ recDuration st.record →
      ∃ u, exec (.rampTick t) s = .next u ∧ u.erasePorts = (s.setTube t { x with
        step := some { watched with
          soakCount := st.soakCount + 1
          holdFlag := false
          bandHold := if recBand st.record = 0 then st.bandHold else 0 } }).erasePorts) ∧
    ((recAction st.record = some .ramp ∨ recAction st.record = some .soak) → s.advancing t st = false →
      s.bandExpired t st = false →
      ∃ u, exec (.rampTick t) s = .next u ∧ u.erasePorts = (s.setTube t { x with
        step := some { watched with holdFlag := true, bandHold := s.bandCount t st }
        events := x.events |||
          ((if st.holdFlag = true then 0 else Event.rampHeld.bit) &&& x.settings.enables) }).erasePorts))

/-- The carry rule loses nothing: n ticks from accumulator 0 move the value by n × rate div 60 together, upward, downward, in a
motion and in the idle ramp, and never past the target; a ramp tick in IDLE_PURGE is one such idle move (R56, R57, R67, R121). -/
def Obligations.CarryRuleLosesNothing : Prop :=
  ∀ start rate target n : Nat,
    let up := fun p : Nat × Nat => ((rampMove .up p.1 p.2 rate target).1, (rampMove .up p.1 p.2 rate target).2.1)
    let down := fun p : Nat × Nat => ((rampMove .down p.1 p.2 rate target).1, (rampMove .down p.1 p.2 rate target).2.1)
    let push := fun p : Nat × Nat => ((motionMove .push p.1 p.2 rate target).1, (motionMove .push p.1 p.2 rate target).2.1)
    let pull := fun p : Nat × Nat => ((motionMove .pull p.1 p.2 rate target).1, (motionMove .pull p.1 p.2 rate target).2.1)
    let idle := fun p : Nat × Nat => idleMove p.1 p.2 rate target
    (∀ (s : State) (t : TubeId), s.jobs = [] → (s.tube t).mode = .idlePurge →
      (s.tube t).setpoint = start → (s.tube t).settings.idleRate = rate → 10 * (s.tube t).settings.idleTemperature = target →
      ∃ u, exec (.rampTick t) s = .next u ∧ u.erasePorts = (s.setTube t { s.tube t with
        setpoint := (idle (start, (s.tube t).idleAcc)).1, idleAcc := (idle (start, (s.tube t).idleAcc)).2 }).erasePorts) ∧
    (start ≤ target →
      (Nat.repeat up n (start, 0)).1 = min target (start + n * rate / 60) ∧
      (Nat.repeat push n (start, 0)).1 = min target (start + n * rate / 60)) ∧
    (target ≤ start →
      (Nat.repeat down n (start, 0)).1 = max target (start - n * rate / 60) ∧
      (Nat.repeat pull n (start, 0)).1 = max target (start - n * rate / 60) ∧
      (Nat.repeat idle n (start, 0)).1 = max target (start - n * rate / 60))

/-- A motion tick of a PUSH or PULL in EXECUTE: the move by the carry rule, the change to inner_speed at the slow point, the
at-target mark, then arrival and the follow watch, judged on P as the tick has left it (the model's choice, log entry 7); at target P
stands and the settle count runs until the drive is in position, and then the step completes and links, with the bank hold flag set to
HELD (BANK); a drive that is not ready holds P, and that or a boat more than the follow limit from P counts; a stale drive is PUSH_STALL
at once (R39, R45, R121 to R124).  That the tick counts nothing for the step linked to is the model's choice, log entry 38.  The values of the counters that the loaded step's action does
not use are the model's choice, log entry 35. -/
def Obligations.MotionTickMovesAndJudges : Prop :=
  ∀ (s : State) (t : TubeId) (st : ActiveStep) (a : Action), s.jobs = [] → (s.tube t).mode = .running .execute →
    (s.tube t).step = some st → recAction st.record = some a → (a = .push ∨ a = .pull) →
    let x := s.tube t
    let target := recTarget st.record
    let inc := (st.motionAcc + st.speed) / 60
    let reached := if a = .push then target ≤ x.position + inc else x.position ≤ target + inc
    let p := if st.atTarget = true then x.position
      else if reached then target else if a = .push then x.position + inc else x.position - inc
    let slow := (if a = .push then recSlowPoint st.record ≤ p else p ≤ recSlowPoint st.record) ∧
      st.speed = recOuterSpeed st.record
    let moved : ActiveStep := if st.atTarget = true then st else { st with
      motionAcc := if reached then 0 else (st.motionAcc + st.speed) % 60
      atTarget := decide reached
      speed := if slow then recInnerSpeed st.record else st.speed }
    (∀ r, s.freshLoader t = some r → (r.ready = true ∨ st.atTarget = true) →
      let behind := r.ready = false ∨ s.bank.followLimit < distance p r.actual
      (behind → st.followCount + 1 < s.bank.stallTime) →
      (st.atTarget = true ∨ reached →
        s.bank.inPositionBand < distance r.actual target ∧ st.settleCount + 1 < 10 * s.bank.settleTime) →
      ∃ u, exec (.motionTick t) s = .next u ∧ u.erasePorts = (s.setTube t { x with
        position := p
        step := some { moved with
          settleCount := if st.atTarget = true ∨ reached then st.settleCount + 1 else st.settleCount
          followCount := if behind then st.followCount + 1 else 0 } }).erasePorts) ∧
    (∀ r, s.freshLoader t = some r → r.ready = true → distance p r.actual ≤ s.bank.followLimit →
      (st.atTarget = true ∨ reached) → distance r.actual target ≤ s.bank.inPositionBand →
      s.monitor.hold = true → s.completes t st → recMarkSetMark st.record = 0 → s.hasRampGrant t = false →
      s.hasRampRequest t = false →
      let i := x.linkIndex st
      stepCheck (s.setTube t { x with position := p }) t i (s.readRecord i) = none →
      ∃ u, exec (.motionTick t) s = .next u ∧ ({ u with free := s.free } : State).erasePorts =
        ((s.leaveMarks t).setTube t { x.linked st (freshStep i (s.readRecord i) none) (.held .bank .notStarted)
          Event.held.bit with position := p }).erasePorts) ∧
    (∀ r, s.freshLoader t = some r → r.ready = false → st.atTarget = false →
      st.followCount + 1 < s.bank.stallTime →
      exec (.motionTick t) s = .next (s.setStep t (some { st with followCount := st.followCount + 1 }))) ∧
    (s.freshLoader t = none → EndsInFault (.motionTick t) t .pushStall s s)

/-- A PUSH or PULL in PROVE, short of its target, leaves for EXECUTE when all its conditions hold and stays otherwise: EXH proven, FLOW
proven where a line is commanded, SEAL proven where a non-inert line is, no grant on OXIDANT, REDUCING or CARRIER, and the load-zone
reading fresh and within the push band of Z0; judged here by a write of the push band, with the band as written (R119). -/
def Obligations.PushBandWriteJudgesProve : Prop :=
  ∀ (s : State) (t : TubeId) (st : ActiveStep) (a : Action) (v : Nat), s.jobs = [] → (s.tube t).mode = .running .prove →
    (s.tube t).step = some st → recAction st.record = some a → (a = .push ∨ a = .pull) →
    (if a = .push then (s.tube t).position < recTarget st.record else recTarget st.record < (s.tube t).position) →
    ∃ u, exec (.pushBandWrite (.station t) t v) s = .next u ∧ (u.tube t).settings.pushBand = min v 500 ∧
      (u.tube t).position = (s.tube t).position ∧
      ((u.tube t).mode = .running .execute ↔
        (s.tube t).exhProof.proven = true ∧
        ((s.tube t).anyCommanded = true → (s.tube t).flowProof.proven = true) ∧
        ((s.tube t).nonInertCommanded = true → (s.tube t).sealProof.proven = true) ∧
        (∀ h, h ≠ .inert → s.grantOn t h = 0 ∨ (s.tube t).gas.emergency = true) ∧
        ∃ r, s.freshZone t .loadEnd = some r ∧ distance r ((s.tube t).zoneSetpoint .loadEnd) ≤ min v 500) ∧
      ((u.tube t).mode ≠ .running .execute → (u.tube t).mode = .running .prove)

/-! ### The ends of counters -/

/-- Each fault counter, one tick before its end, ends in its step fault: with fault_action HOLD the tube is HELD (FAULT) in the phase it was
in, with ABORT it goes to ABORTING, with both records and FAULT; the follow count's last tick finds the drive not ready, or the boat more than
the follow limit from P as the tick's move leaves it (log entry 7); RAMP_HELD is raised before a BAND_TIMEOUT that finds the hold flag clear
(R37, R42, R49, R59, R61, R62, R80, R123, R124).  That the row is the tick with its own counter judged first, and that the tick takes nothing
off the emergency purge time then loaded, are the model's choices, log entries 6 and 38. -/
def Obligations.FaultCountersEndTheStep : Prop :=
  ∀ (s : State) (t : TubeId) (st : ActiveStep), s.jobs = [] → (s.tube t).step = some st →
    ((s.tube t).mode = .running .prove → s.bank.proofTime ≤ st.proofTime + 1 →
      EndsInFault (.proofTimeout t) t .proofTimeout s s) ∧
    ((s.tube t).mode = .running .execute →
      ((s.tube t).flowProof.proven = false → (s.tube t).anyCommanded = true → s.bank.flowLossTime < st.flowLoss + 1 →
        EndsInFault (.gasLost t) t .gasLost s s) ∧
      (s.anyZoneStale t = true → s.bank.zoneStaleLimit < st.zoneStale + 1 →
        EndsInFault (.zoneStale t) t .zoneStale s s) ∧
      ((recAction st.record = some .ramp ∨ recAction st.record = some .soak) → s.outOfBand t st = true →
        0 < (s.tube t).settings.bandLimit → (s.tube t).settings.bandLimit ≤ 65535 →
        (s.tube t).settings.bandLimit < st.bandHold + 1 →
        EndsInFault (.bandTimeout t) t .bandTimeout s (if st.holdFlag = true then s else s.raise t .rampHeld)) ∧
      (∀ m, recAction st.record = some .sync → st.markWait = some m → s.waitsOn t m = true →
        0 < recWaitLimit st.record → recWaitLimit st.record ≤ st.syncWait + 1 →
        EndsInFault (.syncTimeout t) t .syncTimeout s s ∧
          ∀ u, exec (.syncTimeout t) s = .next u → u.waitsOn t m = false) ∧
      (∀ r a, recAction st.record = some a → (a = .push ∨ a = .pull) → s.freshLoader t = some r →
        (st.atTarget = true → s.bank.inPositionBand < distance r.actual (recTarget st.record) →
          10 * s.bank.settleTime ≤ st.settleCount + 1 → EndsInFault (.settleStall t) t .pushStall s s) ∧
        (let x := s.tube t
          let target := recTarget st.record
          let inc := (st.motionAcc + st.speed) / 60
          let reached := if a = .push then target ≤ x.position + inc else x.position ≤ target + inc
          let p := if st.atTarget = true ∨ r.ready = false then x.position
            else if reached then target else if a = .push then x.position + inc else x.position - inc
          (r.ready = false ∨ s.bank.followLimit < distance p r.actual) → s.bank.stallTime ≤ st.followCount + 1 →
            EndsInFault (.followStall t) t .pushStall s s)))

/-- A SOAK's last second, and the last second of a PURGE's last phase, complete the step: with the bank hold flag set, the tube is HELD (BANK)
at its link target; with it clear, a next step without a gas_set begins, and stands in PROVE where EXH is not proven (R39, R65, R45).  A
PURGE's HIGH phase ends in LOW with the low flow commanded, its LOW phase, or a HIGH phase with off_time 0, in the HIGH phase of the next
pulse, the line 0 grant being kept (R79).  That the row is the tick with the step's work judged before the monitors is the model's choice,
log entry 6, and so are the values of the counters that the loaded step's action does not use, log entry 35, and that the tick counts
nothing for the step linked to, log entry 38. -/
def Obligations.SoakAndPurgeCountersEnd : Prop :=
  ∀ (s : State) (t : TubeId) (st : ActiveStep), s.jobs = [] → (s.tube t).mode = .running .execute →
    (s.tube t).step = some st →
    let x := s.tube t
    let i := x.linkIndex st
    let r := s.readRecord i
    let last := st.phaseTime + 1 = (if st.purgePhase = .high then recOnTime st.record else recOffTime st.record)
    let Completes := fun c : Instr =>
      s.completes t st → recMarkSetMark st.record = 0 → s.hasRampGrant t = false → s.hasRampRequest t = false →
      stepCheck s t i r = none →
      (s.monitor.hold = true → ∃ u, exec c s = .next u ∧ u.erasePorts = ((s.leaveMarks t).setTube t
        (x.linked st (freshStep i r none) (.held .bank .notStarted) Event.held.bit)).erasePorts) ∧
      (s.monitor.hold = false → recHasGas r = false → x.exhProof.proven = false →
        ∃ u, exec c s = .next u ∧ u.erasePorts = ((s.leaveMarks t).setTube t
          { x.linked st (freshStep i r none) (.running .prove) 0 with
            offsets := if recOffsetsMark r = 1 ∧ recAction r ≠ some .endRun then recOffsets r else x.offsets }).erasePorts)
    (recAction st.record = some .soak → s.advancing t st = true → st.soakCount + 1 = recDuration st.record →
      Completes (.soakComplete t)) ∧
    (recAction st.record = some .purge → x.flowProof.proven = true → last → st.pulse = recPulses st.record →
      (st.purgePhase = .low ∨ recOffTime st.record = 0) → Completes (.purgePhaseEnd t)) ∧
    (recAction st.record = some .purge → x.flowProof.proven = true → s.monitor.flowSettleTime ≠ 0 →
      s.monitorEnds t = false → last →
      let watched : ActiveStep := { st with
        flowLoss := 0
        zoneStale := if s.anyZoneStale t = true then st.zoneStale + 1 else 0 }
      (st.purgePhase = .high → 0 < recOffTime st.record →
        ∃ u, exec (.purgePhaseEnd t) s = .next u ∧ (u.tube t).mode = x.mode ∧
          (u.tube t).step = some { watched with purgePhase := .low, phaseTime := 0 } ∧
          (u.tube t).gas = { x.gas with command := { x.gas.command with l0 := st.purgeLow } } ∧
          (u.tube t).setpoint = x.setpoint ∧ u.eraseTube t = s.eraseTube t) ∧
      ((st.purgePhase = .low ∨ recOffTime st.record = 0) → st.pulse ≠ recPulses st.record →
        ∃ u, exec (.purgePhaseEnd t) s = .next u ∧ (u.tube t).mode = x.mode ∧
          (u.tube t).step = some { watched with purgePhase := .high, phaseTime := 0, pulse := st.pulse + 1 } ∧
          (u.tube t).gas = { x.gas with command := { x.gas.command with l0 := st.purgeHigh } } ∧
          (u.tube t).setpoint = x.setpoint ∧ u.eraseTube t = s.eraseTube t))

/-- Settle-time expiry, the end of the emergency purge and the expiry of the idle timer: the state that follows, its timer, its event, S
kept, and the request that the tube makes, with line 0's grant and command: the standby request at settle-time expiry; at the end of the purge
the emergency grant released and the standby request made from a grant of 0; the idle request at the timer's expiry.  A request that a decrease
or the headers grant is granted at once, and else waits with GAS_WAIT while the tube keeps its gas.  Stated with no other tube's request in the
gas queue (R26, R35, R82, R83, R85, R90, R95, R97, R150, R152).  That the row lets all the time pass that was left is the model's choice (log
entry 6), and that P is kept where the drive has given no reading its reading (log entry 8).  That the last tick makes no idle move as the idle
timer expires, and takes nothing off the idle timer loaded at the end of the purge, is the model's choice (log entry 38). -/
def Obligations.TimersEndTheTubeState : Prop :=
  ∀ (s : State) (t : TubeId) (n : Nat), s.calm t →
    let x := s.tube t
    let alone := (s.gas.queue.map GasEntry.tube).Nodup
    let timer := if x.settings.idlePeriod = 0 then none else some (60 * x.settings.idlePeriod)
    (x.mode = .settling n → n ≤ 20 →
      ∃ u, exec (.settleTimeExpiry t) s = .next u ∧ (u.tube t).mode = .idle timer ∧
        (u.tube t).position = (match (s.link.loaders.get t).reading with
          | some r => min r.actual x.settings.stroke
          | none => x.position) ∧
        (alone → Line0Requested t x.settings.standbyFlow s u) ∧
        (u.tube t).setpoint = x.setpoint ∧ (x.settings.enables.getLsbD 14 = true → (u.tube t).events.getLsbD 14 = true)) ∧
    (x.mode = .aborting n → n ≤ 3600 →
      ∃ u, exec (.emergencyPurgeEnd t) s = .next u ∧ (u.tube t).mode = .idle timer ∧ (u.tube t).step = none ∧
        (u.tube t).loopOwner = none ∧ (u.tube t).loopLeft = 0 ∧ (u.tube t).gas.emergency = false ∧
        Line0Requested t x.settings.standbyFlow (s.setTube t { x with gas := TubeGas.zero }) u ∧
        (∀ l, l ≠ .l0 → (u.tube t).gas.grant.get l = 0 ∧ (u.tube t).gas.command.get l = 0) ∧
        (u.tube t).setpoint = x.setpoint ∧ (x.settings.enables.getLsbD 1 = true → (u.tube t).events.getLsbD 1 = true)) ∧
    (x.mode = .idle (some n) → n ≤ 86400 →
      ∃ u, exec (.idleTimerExpiry t) s = .next u ∧ (u.tube t).mode = .idlePurge ∧ (u.tube t).idleAcc = 0 ∧
        (alone → Line0Requested t x.settings.idleFlow s u) ∧
        (u.tube t).setpoint = x.setpoint ∧
        (x.settings.enables.getLsbD 12 = true → (u.tube t).events.getLsbD 12 = true))

/-! ### Proven edges -/

/-- A proven edge takes the raw value as the proven value and stops the count; PROOF_RISE or PROOF_FALL is raised by the proof's enable; the
falls of EXH, OTC and SEAL trip their tube, ESTOP sets the latch and trips every RUNNING or HELD tube, COOLING revokes every ramp grant; a
rise of OTC gives its tube's zones their computed ceilings again, a rise of ESTOP leaves the latch as it is (R43, R110, R113, R135, R138,
R140, R141).  The end of a flow settle hold derives FLOW's raw value anew with its count at 0, proven at once with debounce 0 (R137).  That
PROOF_EDGE comes whatever the count, and FLOW_SETTLE_END moves no other count, is the model's choice, log entry 17. -/
def Obligations.ProvenEdgesReachTheirBlocks : Prop :=
  ∀ (s : State), s.jobs = [] → s.monitor.flowSettleTime ≠ 0 → s.gas.queue = [] →
    (∀ p, (s.proof p).raw ≠ (s.proof p).proven → s.flowHeld p = false →
      ∃ u, exec (.proofEdge p) s = .next u ∧ (u.proof p).proven = (s.proof p).raw ∧ (u.proof p).count = 0 ∧
        (∀ t, ((∃ k, p = .tube t k) ∨ (∃ k, p = .bank k) ∧ (s.tube t).mode ≠ .outOfService) →
          ((s.proof p).raw = true → (s.proof p).riseEnable = true → (s.tube t).settings.enables.getLsbD 10 = true →
            (u.tube t).events.getLsbD 10 = true) ∧
          ((s.proof p).raw = false → (s.proof p).fallEnable = true → (s.tube t).settings.enables.getLsbD 11 = true →
            (u.tube t).events.getLsbD 11 = true)) ∧
        ((s.proof p).raw = true →
          (∀ t z, p = .tube t .otc → (s.tube t).mode ≠ .outOfService →
            (u.power.ceiling.get t).get z = (u.power.cmax.get t).get z * u.power.throttle / 1000) ∧
          (p = .bank .estop → u.monitor.latch = s.monitor.latch ∧ ∀ t, (u.tube t).mode = (s.tube t).mode)) ∧
        ((s.proof p).raw = false →
          (∀ t k st, (s.tube t).mode.isRun = true → (s.tube t).step = some st →
            (p = .tube t .exh ∧ k = Kind.exhLost ∨ p = .tube t .otc ∧ k = Kind.otcLost ∨
              p = .tube t .sealed ∧ k = Kind.sealLost ∧ (s.tube t).nonInertCommanded = true ∨
              p = .bank .estop ∧ k = Kind.estop) →
            (u.tube t).mode = .aborting s.bank.emergencyTime ∧ (u.tube t).lastFault = some ⟨k, st.index, none⟩ ∧
              (u.tube t).setpoint = (s.tube t).setpoint) ∧
          (∀ t z, p = .tube t .otc → (u.power.ceiling.get t).get z = 0) ∧
          (p = .bank .estop → u.monitor.latch = true ∧ u.bankEvents.getLsbD 4 = true) ∧
          (p = .bank .cooling → u.power.grants = [] ∧ u.bankEvents.getLsbD 5 = true ∧
            (∀ g ∈ s.power.grants, u.hasRampRequest g.tube = true) ∧ ∀ t, (u.tube t).mode = (s.tube t).mode))) ∧
    ∀ t, 0 < (s.tube t).flowSettle →
      let raw := s.rawNow (.tube t .flow)
      ((raw = (s.tube t).flowProof.proven ∨ (s.tube t).flowProof.debounce ≠ 0) →
        exec (.flowSettleEnd t) s = .next (s.setTube t { s.tube t with
          flowSettle := 0
          flowProof := { (s.tube t).flowProof with raw := raw, count := 0 } })) ∧
      (raw ≠ (s.tube t).flowProof.proven → (s.tube t).flowProof.debounce = 0 →
        ∃ u, exec (.flowSettleEnd t) s = .next u ∧ (u.tube t).flowProof.proven = raw)

/-! ### The field link -/

/-- A poll period that elapses marks the poll due, or counts the overdue poll as a miss; the free link takes the due exchange that
the arbiter puts first (safe exchanges by lowest address, then loader drives, flow units and the bank node, zone units, lowest address
first), clears its mark and sends the Set message built from the state, or the safe contents (R53, R77, R116, R144, R145, R149). -/
def Obligations.LinkTakesTheFirstDueExchange : Prop :=
  ∀ (s : State) (n : NodeId), s.jobs = [] →
    ((s.nodeStatus n).pollDue = false →
      exec (.pollDue n) s = .next (s.setStatus n { s.nodeStatus n with pollDue := true })) ∧
    ((s.nodeStatus n).pollDue = true → (s.nodeStatus n).misses < 2 →
      exec (.pollDue n) s = .next (s.setStatus n { s.nodeStatus n with misses := (s.nodeStatus n).misses + 1 })) ∧
    (∀ e, s.link.exchange = some e → exec .exchangeTaken s = .next s) ∧
    (s.link.exchange = none →
      ((∀ m, (s.nodeStatus m).safeDue = false ∧ (s.nodeStatus m).pollDue = false) →
        exec .exchangeTaken s = .next s) ∧
      ((s.nodeStatus n).safeDue = true → (∀ m, (s.nodeStatus m).safeDue = true → n.address ≤ m.address) →
        exec .exchangeTaken s = .next ((s.setStatus n { s.nodeStatus n with safeDue := false }).setExchange (some {
          node := n
          safe := true
          message := match n with
            | .zone t z => .zone ((s.tube t).zoneSetpoint z) 0
            | .flow _ => .flow zeroLines
            | .loader t => .loader (s.tube t).position false
            | .bank => .bank }))) ∧
      ((∀ m, (s.nodeStatus m).safeDue = false) → (s.nodeStatus n).pollDue = true →
        (∀ m, (s.nodeStatus m).pollDue = true →
          n.pollRank < m.pollRank ∨ n.pollRank = m.pollRank ∧ n.address ≤ m.address) →
        exec .exchangeTaken s = .next ((s.setStatus n { s.nodeStatus n with pollDue := false }).setExchange (some {
          node := n
          safe := false
          message := match n with
            | .zone t z => .zone
                (max 0 (min ((s.tube t).settings.tmax : Int)
                  (((s.tube t).setpoint / 10 : Nat) + (s.tube t).offsets.get z))).toNat
                ((s.power.ceiling.get t).get z)
            | .flow t => .flow (PerLine.of fun l =>
                let c := (s.tube t).gas.command.get l
                if l = .l0 ∨ s.lineHeader t l = some .inert then c
                else if (s.lineHeader t l).isSome = true ∧ (s.tube t).sealProof.proven = true then c else 0)
            | .loader t => .loader (s.tube t).position
                ((s.tube t).taken && decide ((s.tube t).mode ≠ .outOfService ∧ (s.tube t).mode.isSettling = false))
            | .bank => .bank }))))

/-- A good reply ends the exchange with its node: the reading is held clamped, the node is FRESH with no miss; SENSOR_OPEN makes a zone
unit STALE and no miss, its last temperature being kept (that its reading then shows SENSOR_OPEN is the model's choice, log entry 29);
FLOW is judged line by line against the sent flows; a reply with a value that is none of its choices is a miss (R133, R136, R146, R147).  That
a FRESH node keeps its last stale cause is the model's choice, log entry 36. -/
def Obligations.GoodReplyIsHeld : Prop :=
  ∀ (s : State) (t : TubeId), s.jobs = [] →
    (∀ z v, s.link.exchange.map Exchange.node = some (.zone t z) →
      let n := (s.link.zones.get t).get z
      (∃ u, exec (.goodReply (.zone t z) (.zone v .ok)) s = .next u ∧
        u.link = ((s.setExchange none).setZone t z { reading := some { temperature := min v 15000, status := .ok }, status :=
          { n.status with fresh := true, misses := 0 } }).link ∧
        ((z ≠ .loadEnd ∨ (s.tube t).mode ≠ .running .prove) → { u with link := s.link } = s)) ∧
      ((s.tube t).mode ≠ .running .prove →
        exec (.goodReply (.zone t z) (.zone v .sensorOpen)) s = .next ((s.setExchange none).setZone t z
          { reading := n.reading.map fun r => { r with status := .sensorOpen }
            status := { n.status with fresh := false, cause := .sensorOpen, misses := 0 } }))) ∧
    (∀ m, s.link.exchange.map Exchange.node = some (.flow t) → (s.tube t).flowProof.source = .internal →
      (s.tube t).flowProof.debounce ≠ 0 →
      ∃ u, exec (.goodReply (.flow t) (.flow m)) s = .next u ∧
        u.link = ((s.setExchange none).setFlow t { reading := some (PerLine.of fun l => min (m.get l) 60000), status :=
          { (s.link.flows.get t).status with fresh := true, misses := 0 } }).link ∧
        ((u.tube t).flowProof.raw = true ↔ ∀ l, (s.tube t).sentFlow l = 0 ∨
          distance (min (m.get l) 60000) ((s.tube t).sentFlow l) ≤
            max ((s.tube t).sentFlow l * s.monitor.tolPct / 100) s.monitor.tolMin) ∧
        (u.tube t).flowProof.proven = (s.tube t).flowProof.proven) ∧
    (∀ v, s.link.exchange.map Exchange.node = some (.loader t) →
      (∀ b : Bool, ∃ u, exec (.goodReply (.loader t) (.loader v (if b then .yes else .no))) s = .next u ∧
        u.link = ((s.setExchange none).setLoader t { reading := some { actual := min v 30000, ready := b }, status :=
          { (s.link.loaders.get t).status with fresh := true, misses := 0 } }).link) ∧
      ((s.link.loaders.get t).status.misses < 2 →
        exec (.goodReply (.loader t) (.loader v .invalid)) s = .next ((s.setExchange none).setStatus (.loader t)
          { (s.link.loaders.get t).status with misses := (s.link.loaders.get t).status.misses + 1 })))

/-- A bank node's reply whose contacts are all closed or open: the reading is held clamped, the node is FRESH with no miss, and every proof
that reads the node takes the raw value of its source, from its contact, from the exhaust differential with its hysteresis or from the
cooling flow (R132 to R134, R146, R147).  A reply with a contact that is neither is a miss (R146).  That the FRESH node keeps its last stale
cause is the model's choice, log entry 36. -/
def Obligations.BankReplyFeedsTheProofs : Prop :=
  ∀ (s : State) (exhaust : PerTube Nat) (cooling : Nat) (e w o : PerTube WireFlag) (c p : WireFlag), s.jobs = [] →
    s.link.exchange.map Exchange.node = some .bank →
    let closed := fun f : WireFlag => decide (f = .yes)
    let valid := (∀ t : TubeId, e.get t ≠ .invalid ∧ w.get t ≠ .invalid ∧ o.get t ≠ .invalid) ∧ c ≠ .invalid ∧ p ≠ .invalid
    (valid → ∃ u, exec (.goodReply .bank (.bank exhaust cooling e w o c p)) s = .next u ∧
      u.link = ((s.setExchange none).setBankNode {
        reading := some {
          exhaust := PerTube.of fun t => min (exhaust.get t) 5000
          cooling := min cooling 10000
          exhContact := PerTube.of fun t => closed (e.get t)
          sealSwitch := PerTube.of fun t => closed (w.get t)
          otContact := PerTube.of fun t => closed (o.get t)
          coolingContact := closed c
          estopChain := closed p }
        status := { s.link.bank.status with fresh := true, misses := 0 } }).link ∧
      (∀ t, (u.proof (.tube t .exh)).raw = (s.proof (.tube t .exh)).source.value (closed (e.get t))
          (if min (exhaust.get t) 5000 < (s.tube t).settings.exhLow then false
            else if (s.tube t).settings.exhHigh < min (exhaust.get t) 5000 then true else (s.tube t).exhProof.raw) ∧
        ((s.proof (.tube t .sealed)).source ≠ .internal →
          (u.proof (.tube t .sealed)).raw = (s.proof (.tube t .sealed)).source.value (closed (w.get t)) false) ∧
        (u.proof (.tube t .otc)).raw = (s.proof (.tube t .otc)).source.value (closed (o.get t)) false) ∧
      (u.proof (.bank .estop)).raw = (s.proof (.bank .estop)).source.value (closed p) false ∧
      (u.proof (.bank .cooling)).raw = (s.proof (.bank .cooling)).source.value (closed c)
        (decide (s.monitor.coolingThreshold ≤ min cooling 10000))) ∧
    (¬valid → s.link.bank.status.misses < 2 →
      exec (.goodReply .bank (.bank exhaust cooling e w o c p)) s = .next ((s.setExchange none).setStatus .bank
        { s.link.bank.status with misses := s.link.bank.status.misses + 1 }))

/-- A miss counts up to 3; the third makes a fresh node STALE by MISSED and hands that on: a zone unit to nothing but the readings that
use it, a loader drive to its moving step as PUSH_STALL, the bank node to the proofs whose contacts it carries (R132, R147, R148).  A reply
that names another node than the polled one is a miss of the polled one (R146, R147).  That a reply or a timeout with no exchange in
progress, as after the reply timeout, and a timeout of a node that is not polled change nothing is deduced, log entry 11. -/
def Obligations.MissesMakeNodesStale : Prop :=
  (∀ (s : State) (n : NodeId) (r : WireReading), s.jobs = [] → s.link.exchange = none →
    exec (.goodReply n r) s = .next s ∧ exec (.replyTimeout n) s = .next s) ∧
  (∀ (s : State) (n m : NodeId) (r : WireReading), s.jobs = [] → s.link.exchange.map Exchange.node = some n → m ≠ n →
    exec (.goodReply m r) s = exec (.replyTimeout n) s ∧ exec (.replyTimeout m) s = .next s) ∧
  ∀ (s : State) (n : NodeId), s.jobs = [] → s.link.exchange.map Exchange.node = some n →
    let st := s.nodeStatus n
    (st.misses < 2 →
      exec (.replyTimeout n) s = .next ((s.setExchange none).setStatus n { st with misses := st.misses + 1 })) ∧
    (2 ≤ st.misses → ∃ u, exec (.replyTimeout n) s = .next u ∧ u.link =
      ((s.setExchange none).setStatus n { st with misses := 3, fresh := false, cause := .missed }).link ∧
      (st.fresh = false → u = { s with link := u.link }) ∧
      (∀ t z, n = .zone t z → (z ≠ .loadEnd ∨ (s.tube t).mode ≠ .running .prove) → u = { s with link := u.link }) ∧
      (∀ t x a, n = .loader t → st.fresh = true → (s.tube t).mode = .running .execute → (s.tube t).step = some x →
        recAction x.record = some a → (a = .push ∨ a = .pull) → (s.tube t).settings.faultAction = .hold →
        (s.tube t).sealProof.debounce ≠ 0 → FaultHeld t .pushStall s u) ∧
      (n = .bank → st.fresh = true → ∀ p ∈ bankNodeProofs,
        ((s.proof p).source = .externalPass ∨ (s.proof p).source = .externalComplement) → (u.proof p).raw = false))

/-! ### Marks and the passes of the allocators -/

/-- A mark that is set is taken by every RUNNING waiter that does not consume and by the oldest RUNNING one that does, in list order;
with a consuming taker it is clear at once, otherwise it stands with its setter; the takers leave the list and every other waiter stays
in its place (R47).  That their completions stand in list order in the model's own list of acts, before the MARK_SET activity, is the
model's choice (log entries 2 and 24).  A SYNC judged on a clear mark joins the end of its list with its wait from 0 (R48, R49). -/
def Obligations.SetMarkIsTakenByItsWaiters : Prop :=
  ∀ (s : State) (t : TubeId) (m : MarkId), (s.mark m).waiters.Nodup →
    let waiters := (s.mark m).waiters
    let ready := fun w : Waiter => decide ((s.tube w.tube).mode = .running .execute)
    let took := waiters.filter fun w =>
      ready w && (!w.consume || (waiters.find? fun v => ready v && v.consume) == some w)
    let u := s.setMarkBy m t
    (u.mark m).waiters = (waiters.filter fun w => !took.contains w) ∧
    ((∃ w ∈ took, w.consume = true) → (u.mark m).set = false ∧ (u.mark m).setter = none) ∧
    ((∀ w ∈ took, w.consume = false) → (u.mark m).set = true ∧ (u.mark m).setter = some t) ∧
    (u.jobs.take (s.jobs.length + took.length) = s.jobs ++ took.map fun w => Job.complete w.tube none) ∧
    (∀ k, k ≠ m → u.mark k = s.mark k) ∧
    ∀ st, (s.tube t).step = some st → st.markWait = some m → (s.mark m).set = false → s.waitsOn t m = false →
      s.judgeSync t = (s.setMark m { s.mark m with
        waiters := waiters ++ [{ tube := t, consume := recConsume st.record == 1 }] }).setStep t
          (some { st with syncWait := 0 })

/-- After a FIFO gas pass the first entry that is not oversize does not fit, so nothing overtakes it; under FIT_FIRST a later entry that
fits is granted past one that does not, and its tube's grants and commands become its flows (R92, R93, R95).  The power pass takes its
candidates in arbitration order: by descending priority under FIXED, from the tube after the rotate pointer under ROTATE, each tube once; after
it, the first candidate in that order that is still asking and is not oversize is not admissible, so no lower one overtakes it (R106 to
R108). -/
def Obligations.AllocatorPassesFollowTheirOrder : Prop :=
  ∀ s : State,
    ((s.gas.queue.map GasEntry.tube).Nodup →
      (s.gas.policy = .fifo →
        ∀ e, s.gasPass.gas.queue.find? (fun e => !e.oversize) = some e → s.gasPass.gasFits e = false) ∧
      (s.gas.policy = .fitFirst → ∀ e f, s.gas.queue = [e, f] → s.gasOversize e = false → s.gasOversize f = false →
        s.gasFits e = false → s.gasFits f = true →
        s.gasPass.gas.queue = [{ e with oversize := false }] ∧
        (s.gasPass.tube f.tube).gas = { grant := f.flows, command := f.flows, emergency := false } ∧
        ∀ x, x ≠ f.tube → s.gasPass.tube x = s.tube x)) ∧
    (s.power.order = .fixed → [s.power.priority.t0, s.power.priority.t1, s.power.priority.t2, s.power.priority.t3].Perm
        [0, 1, 2, 3] →
      s.power.candidates.Perm TubeId.all ∧
      s.power.candidates.Pairwise fun a b => s.power.priority.get b < s.power.priority.get a) ∧
    (s.power.order = .rotate → s.power.candidates =
      [s.power.pointer.next, s.power.pointer.next.next, s.power.pointer.next.next.next, s.power.pointer]) ∧
    ((s.power.requests.map RampRequest.tube).Nodup → ∀ t r,
      (s.power.candidates.find? fun x => s.rampPass.power.requests.any fun q => q.tube == x && !q.oversize) = some t →
      r ∈ s.rampPass.power.requests → r.tube = t → s.rampPass.rampAdmissible r.amount = false)
end

