-- ==== Sys2Proof/Laws/State.lean ====
section
/-!
SUPPORT. The small lemmas of State: what one part reads after another was replaced, one lemma per field per update, so
that no later proof unfolds a record update.
-/

namespace Sys2Proof

variable {α : Type}

@[simp] theorem PerTube.get_set_self (x : PerTube α) (t : TubeId) (a : α) : (x.set t a).get t = a := by
  cases t <;> rfl

theorem PerTube.get_set (x : PerTube α) (t u : TubeId) (a : α) : (x.set t a).get u = if u = t then a else x.get u := by
  cases t <;> cases u <;> rfl

theorem PerTube.get_set_ne (x : PerTube α) {t u : TubeId} (hne : u ≠ t) (a : α) : (x.set t a).get u = x.get u := by
  rw [PerTube.get_set, if_neg hne]

@[simp] theorem PerTube.get_of (f : TubeId → α) (t : TubeId) : (PerTube.of f).get t = f t := by
  cases t <;> rfl

theorem PerTube.ext_get {x y : PerTube α} (hall : ∀ t, x.get t = y.get t) : x = y := by
  cases x; cases y
  simp only [PerTube.mk.injEq]
  exact ⟨hall .t0, hall .t1, hall .t2, hall .t3⟩

@[simp] theorem PerZone.get_set_self (x : PerZone α) (z : ZoneId) (a : α) : (x.set z a).get z = a := by
  cases z <;> rfl

theorem PerZone.get_set (x : PerZone α) (z u : ZoneId) (a : α) : (x.set z a).get u = if u = z then a else x.get u := by
  cases z <;> cases u <;> rfl

theorem PerZone.get_set_ne (x : PerZone α) {z u : ZoneId} (hne : u ≠ z) (a : α) : (x.set z a).get u = x.get u := by
  rw [PerZone.get_set, if_neg hne]

@[simp] theorem PerZone.get_of (f : ZoneId → α) (z : ZoneId) : (PerZone.of f).get z = f z := by
  cases z <;> rfl

theorem PerZone.ext_get {x y : PerZone α} (hall : ∀ z, x.get z = y.get z) : x = y := by
  cases x; cases y
  simp only [PerZone.mk.injEq]
  exact ⟨hall .loadEnd, hall .centre, hall .sourceEnd⟩

@[simp] theorem PerLine.get_set_self (x : PerLine α) (l : LineId) (a : α) : (x.set l a).get l = a := by
  cases l <;> rfl

theorem PerLine.get_set (x : PerLine α) (l u : LineId) (a : α) : (x.set l a).get u = if u = l then a else x.get u := by
  cases l <;> cases u <;> rfl

theorem PerLine.get_set_ne (x : PerLine α) {l u : LineId} (hne : u ≠ l) (a : α) : (x.set l a).get u = x.get u := by
  rw [PerLine.get_set, if_neg hne]

@[simp] theorem PerLine.get_of (f : LineId → α) (l : LineId) : (PerLine.of f).get l = f l := by
  cases l <;> rfl

theorem PerLine.ext_get {x y : PerLine α} (hall : ∀ l, x.get l = y.get l) : x = y := by
  cases x; cases y
  simp only [PerLine.mk.injEq]
  exact ⟨hall .l0, hall .l1, hall .l2, hall .l3, hall .l4, hall .l5⟩

@[simp] theorem PerHeader.get_set_self (x : PerHeader α) (h : Header) (a : α) : (x.set h a).get h = a := by
  cases h <;> rfl

theorem PerHeader.get_set (x : PerHeader α) (h u : Header) (a : α) : (x.set h a).get u = if u = h then a else x.get u := by
  cases h <;> cases u <;> rfl

theorem PerHeader.get_set_ne (x : PerHeader α) {h u : Header} (hne : u ≠ h) (a : α) : (x.set h a).get u = x.get u := by
  rw [PerHeader.get_set, if_neg hne]

@[simp] theorem PerHeader.get_of (f : Header → α) (h : Header) : (PerHeader.of f).get h = f h := by
  cases h <;> rfl

theorem PerHeader.ext_get {x y : PerHeader α} (hall : ∀ h, x.get h = y.get h) : x = y := by
  cases x; cases y
  simp only [PerHeader.mk.injEq]
  exact ⟨hall .inert, hall .oxidant, hall .reducing, hall .carrier⟩

@[simp] theorem PerMark.get_set_self (x : PerMark α) (m : MarkId) (a : α) : (x.set m a).get m = a := by
  cases m <;> rfl

theorem PerMark.get_set (x : PerMark α) (m u : MarkId) (a : α) : (x.set m a).get u = if u = m then a else x.get u := by
  cases m <;> cases u <;> rfl

theorem PerMark.get_set_ne (x : PerMark α) {m u : MarkId} (hne : u ≠ m) (a : α) : (x.set m a).get u = x.get u := by
  rw [PerMark.get_set, if_neg hne]

@[simp] theorem PerMark.get_of (f : MarkId → α) (m : MarkId) : (PerMark.of f).get m = f m := by
  cases m <;> rfl

theorem PerMark.ext_get {x y : PerMark α} (hall : ∀ m, x.get m = y.get m) : x = y := by
  cases x; cases y
  simp only [PerMark.mk.injEq]
  exact ⟨hall .m0, hall .m1, hall .m2, hall .m3, hall .m4, hall .m5, hall .m6, hall .m7⟩

end Sys2Proof

namespace Sys2Proof.Machine

open Sys2Proof

variable (s : State)

/-! ### One part replaced, another read -/

@[simp] theorem State.setTube_marks (t : TubeId) (x : Tube) : (s.setTube t x).marks = s.marks := rfl
@[simp] theorem State.setTube_gas (t : TubeId) (x : Tube) : (s.setTube t x).gas = s.gas := rfl
@[simp] theorem State.setTube_power (t : TubeId) (x : Tube) : (s.setTube t x).power = s.power := rfl
@[simp] theorem State.setTube_monitor (t : TubeId) (x : Tube) : (s.setTube t x).monitor = s.monitor := rfl
@[simp] theorem State.setTube_bank (t : TubeId) (x : Tube) : (s.setTube t x).bank = s.bank := rfl
@[simp] theorem State.setTube_link (t : TubeId) (x : Tube) : (s.setTube t x).link = s.link := rfl
@[simp] theorem State.setTube_ports (t : TubeId) (x : Tube) : (s.setTube t x).ports = s.ports := rfl
@[simp] theorem State.setTube_bankError (t : TubeId) (x : Tube) : (s.setTube t x).bankError = s.bankError := rfl
@[simp] theorem State.setTube_bankEvents (t : TubeId) (x : Tube) : (s.setTube t x).bankEvents = s.bankEvents := rfl
@[simp] theorem State.setTube_profile (t : TubeId) (x : Tube) : (s.setTube t x).profile = s.profile := rfl
@[simp] theorem State.setTube_b0 (t : TubeId) (x : Tube) : (s.setTube t x).b0 = s.b0 := rfl
@[simp] theorem State.setTube_b1 (t : TubeId) (x : Tube) : (s.setTube t x).b1 = s.b1 := rfl
@[simp] theorem State.setTube_b2 (t : TubeId) (x : Tube) : (s.setTube t x).b2 = s.b2 := rfl
@[simp] theorem State.setTube_jobs (t : TubeId) (x : Tube) : (s.setTube t x).jobs = s.jobs := rfl
@[simp] theorem State.setTube_free (t : TubeId) (x : Tube) : (s.setTube t x).free = s.free := rfl
@[simp] theorem State.setTube_pending (t : TubeId) (x : Tube) : (s.setTube t x).pending = s.pending := rfl

@[simp] theorem State.modTube_marks (t : TubeId) (f : Tube → Tube) : (s.modTube t f).marks = s.marks := rfl
@[simp] theorem State.modTube_gas (t : TubeId) (f : Tube → Tube) : (s.modTube t f).gas = s.gas := rfl
@[simp] theorem State.modTube_power (t : TubeId) (f : Tube → Tube) : (s.modTube t f).power = s.power := rfl
@[simp] theorem State.modTube_monitor (t : TubeId) (f : Tube → Tube) : (s.modTube t f).monitor = s.monitor := rfl
@[simp] theorem State.modTube_bank (t : TubeId) (f : Tube → Tube) : (s.modTube t f).bank = s.bank := rfl
@[simp] theorem State.modTube_link (t : TubeId) (f : Tube → Tube) : (s.modTube t f).link = s.link := rfl
@[simp] theorem State.modTube_ports (t : TubeId) (f : Tube → Tube) : (s.modTube t f).ports = s.ports := rfl
@[simp] theorem State.modTube_bankError (t : TubeId) (f : Tube → Tube) : (s.modTube t f).bankError = s.bankError := rfl
@[simp] theorem State.modTube_bankEvents (t : TubeId) (f : Tube → Tube) : (s.modTube t f).bankEvents = s.bankEvents := rfl
@[simp] theorem State.modTube_profile (t : TubeId) (f : Tube → Tube) : (s.modTube t f).profile = s.profile := rfl
@[simp] theorem State.modTube_b0 (t : TubeId) (f : Tube → Tube) : (s.modTube t f).b0 = s.b0 := rfl
@[simp] theorem State.modTube_b1 (t : TubeId) (f : Tube → Tube) : (s.modTube t f).b1 = s.b1 := rfl
@[simp] theorem State.modTube_b2 (t : TubeId) (f : Tube → Tube) : (s.modTube t f).b2 = s.b2 := rfl
@[simp] theorem State.modTube_jobs (t : TubeId) (f : Tube → Tube) : (s.modTube t f).jobs = s.jobs := rfl
@[simp] theorem State.modTube_free (t : TubeId) (f : Tube → Tube) : (s.modTube t f).free = s.free := rfl
@[simp] theorem State.modTube_pending (t : TubeId) (f : Tube → Tube) : (s.modTube t f).pending = s.pending := rfl

@[simp] theorem State.setMode_marks (t : TubeId) (m : Mode) : (s.setMode t m).marks = s.marks := rfl
@[simp] theorem State.setMode_gas (t : TubeId) (m : Mode) : (s.setMode t m).gas = s.gas := rfl
@[simp] theorem State.setMode_power (t : TubeId) (m : Mode) : (s.setMode t m).power = s.power := rfl
@[simp] theorem State.setMode_monitor (t : TubeId) (m : Mode) : (s.setMode t m).monitor = s.monitor := rfl
@[simp] theorem State.setMode_bank (t : TubeId) (m : Mode) : (s.setMode t m).bank = s.bank := rfl
@[simp] theorem State.setMode_link (t : TubeId) (m : Mode) : (s.setMode t m).link = s.link := rfl
@[simp] theorem State.setMode_ports (t : TubeId) (m : Mode) : (s.setMode t m).ports = s.ports := rfl
@[simp] theorem State.setMode_bankError (t : TubeId) (m : Mode) : (s.setMode t m).bankError = s.bankError := rfl
@[simp] theorem State.setMode_bankEvents (t : TubeId) (m : Mode) : (s.setMode t m).bankEvents = s.bankEvents := rfl
@[simp] theorem State.setMode_profile (t : TubeId) (m : Mode) : (s.setMode t m).profile = s.profile := rfl
@[simp] theorem State.setMode_b0 (t : TubeId) (m : Mode) : (s.setMode t m).b0 = s.b0 := rfl
@[simp] theorem State.setMode_b1 (t : TubeId) (m : Mode) : (s.setMode t m).b1 = s.b1 := rfl
@[simp] theorem State.setMode_b2 (t : TubeId) (m : Mode) : (s.setMode t m).b2 = s.b2 := rfl
@[simp] theorem State.setMode_jobs (t : TubeId) (m : Mode) : (s.setMode t m).jobs = s.jobs := rfl
@[simp] theorem State.setMode_free (t : TubeId) (m : Mode) : (s.setMode t m).free = s.free := rfl
@[simp] theorem State.setMode_pending (t : TubeId) (m : Mode) : (s.setMode t m).pending = s.pending := rfl

@[simp] theorem State.setStep_marks (t : TubeId) (st : Option ActiveStep) : (s.setStep t st).marks = s.marks := rfl
@[simp] theorem State.setStep_gas (t : TubeId) (st : Option ActiveStep) : (s.setStep t st).gas = s.gas := rfl
@[simp] theorem State.setStep_power (t : TubeId) (st : Option ActiveStep) : (s.setStep t st).power = s.power := rfl
@[simp] theorem State.setStep_monitor (t : TubeId) (st : Option ActiveStep) : (s.setStep t st).monitor = s.monitor := rfl
@[simp] theorem State.setStep_bank (t : TubeId) (st : Option ActiveStep) : (s.setStep t st).bank = s.bank := rfl
@[simp] theorem State.setStep_link (t : TubeId) (st : Option ActiveStep) : (s.setStep t st).link = s.link := rfl
@[simp] theorem State.setStep_ports (t : TubeId) (st : Option ActiveStep) : (s.setStep t st).ports = s.ports := rfl
@[simp] theorem State.setStep_bankError (t : TubeId) (st : Option ActiveStep) : (s.setStep t st).bankError = s.bankError := rfl
@[simp] theorem State.setStep_bankEvents (t : TubeId) (st : Option ActiveStep) : (s.setStep t st).bankEvents = s.bankEvents := rfl
@[simp] theorem State.setStep_profile (t : TubeId) (st : Option ActiveStep) : (s.setStep t st).profile = s.profile := rfl
@[simp] theorem State.setStep_b0 (t : TubeId) (st : Option ActiveStep) : (s.setStep t st).b0 = s.b0 := rfl
@[simp] theorem State.setStep_b1 (t : TubeId) (st : Option ActiveStep) : (s.setStep t st).b1 = s.b1 := rfl
@[simp] theorem State.setStep_b2 (t : TubeId) (st : Option ActiveStep) : (s.setStep t st).b2 = s.b2 := rfl
@[simp] theorem State.setStep_jobs (t : TubeId) (st : Option ActiveStep) : (s.setStep t st).jobs = s.jobs := rfl
@[simp] theorem State.setStep_free (t : TubeId) (st : Option ActiveStep) : (s.setStep t st).free = s.free := rfl
@[simp] theorem State.setStep_pending (t : TubeId) (st : Option ActiveStep) : (s.setStep t st).pending = s.pending := rfl

@[simp] theorem State.modSettings_marks (t : TubeId) (f : TubeSettings → TubeSettings) : (s.modSettings t f).marks = s.marks := rfl
@[simp] theorem State.modSettings_gas (t : TubeId) (f : TubeSettings → TubeSettings) : (s.modSettings t f).gas = s.gas := rfl
@[simp] theorem State.modSettings_power (t : TubeId) (f : TubeSettings → TubeSettings) : (s.modSettings t f).power = s.power := rfl
@[simp] theorem State.modSettings_monitor (t : TubeId) (f : TubeSettings → TubeSettings) : (s.modSettings t f).monitor = s.monitor := rfl
@[simp] theorem State.modSettings_bank (t : TubeId) (f : TubeSettings → TubeSettings) : (s.modSettings t f).bank = s.bank := rfl
@[simp] theorem State.modSettings_link (t : TubeId) (f : TubeSettings → TubeSettings) : (s.modSettings t f).link = s.link := rfl
@[simp] theorem State.modSettings_ports (t : TubeId) (f : TubeSettings → TubeSettings) : (s.modSettings t f).ports = s.ports := rfl
@[simp] theorem State.modSettings_bankError (t : TubeId) (f : TubeSettings → TubeSettings) : (s.modSettings t f).bankError = s.bankError := rfl
@[simp] theorem State.modSettings_bankEvents (t : TubeId) (f : TubeSettings → TubeSettings) : (s.modSettings t f).bankEvents = s.bankEvents := rfl
@[simp] theorem State.modSettings_profile (t : TubeId) (f : TubeSettings → TubeSettings) : (s.modSettings t f).profile = s.profile := rfl
@[simp] theorem State.modSettings_b0 (t : TubeId) (f : TubeSettings → TubeSettings) : (s.modSettings t f).b0 = s.b0 := rfl
@[simp] theorem State.modSettings_b1 (t : TubeId) (f : TubeSettings → TubeSettings) : (s.modSettings t f).b1 = s.b1 := rfl
@[simp] theorem State.modSettings_b2 (t : TubeId) (f : TubeSettings → TubeSettings) : (s.modSettings t f).b2 = s.b2 := rfl
@[simp] theorem State.modSettings_jobs (t : TubeId) (f : TubeSettings → TubeSettings) : (s.modSettings t f).jobs = s.jobs := rfl
@[simp] theorem State.modSettings_free (t : TubeId) (f : TubeSettings → TubeSettings) : (s.modSettings t f).free = s.free := rfl
@[simp] theorem State.modSettings_pending (t : TubeId) (f : TubeSettings → TubeSettings) : (s.modSettings t f).pending = s.pending := rfl

@[simp] theorem State.raise_marks (t : TubeId) (e : Event) : (s.raise t e).marks = s.marks := rfl
@[simp] theorem State.raise_gas (t : TubeId) (e : Event) : (s.raise t e).gas = s.gas := rfl
@[simp] theorem State.raise_power (t : TubeId) (e : Event) : (s.raise t e).power = s.power := rfl
@[simp] theorem State.raise_monitor (t : TubeId) (e : Event) : (s.raise t e).monitor = s.monitor := rfl
@[simp] theorem State.raise_bank (t : TubeId) (e : Event) : (s.raise t e).bank = s.bank := rfl
@[simp] theorem State.raise_link (t : TubeId) (e : Event) : (s.raise t e).link = s.link := rfl
@[simp] theorem State.raise_ports (t : TubeId) (e : Event) : (s.raise t e).ports = s.ports := rfl
@[simp] theorem State.raise_bankError (t : TubeId) (e : Event) : (s.raise t e).bankError = s.bankError := rfl
@[simp] theorem State.raise_bankEvents (t : TubeId) (e : Event) : (s.raise t e).bankEvents = s.bankEvents := rfl
@[simp] theorem State.raise_profile (t : TubeId) (e : Event) : (s.raise t e).profile = s.profile := rfl
@[simp] theorem State.raise_b0 (t : TubeId) (e : Event) : (s.raise t e).b0 = s.b0 := rfl
@[simp] theorem State.raise_b1 (t : TubeId) (e : Event) : (s.raise t e).b1 = s.b1 := rfl
@[simp] theorem State.raise_b2 (t : TubeId) (e : Event) : (s.raise t e).b2 = s.b2 := rfl
@[simp] theorem State.raise_jobs (t : TubeId) (e : Event) : (s.raise t e).jobs = s.jobs := rfl
@[simp] theorem State.raise_free (t : TubeId) (e : Event) : (s.raise t e).free = s.free := rfl
@[simp] theorem State.raise_pending (t : TubeId) (e : Event) : (s.raise t e).pending = s.pending := rfl

@[simp] theorem State.recordFault_marks (t : TubeId) (r : FaultRecord) : (s.recordFault t r).marks = s.marks := rfl
@[simp] theorem State.recordFault_gas (t : TubeId) (r : FaultRecord) : (s.recordFault t r).gas = s.gas := rfl
@[simp] theorem State.recordFault_power (t : TubeId) (r : FaultRecord) : (s.recordFault t r).power = s.power := rfl
@[simp] theorem State.recordFault_monitor (t : TubeId) (r : FaultRecord) : (s.recordFault t r).monitor = s.monitor := rfl
@[simp] theorem State.recordFault_bank (t : TubeId) (r : FaultRecord) : (s.recordFault t r).bank = s.bank := rfl
@[simp] theorem State.recordFault_link (t : TubeId) (r : FaultRecord) : (s.recordFault t r).link = s.link := rfl
@[simp] theorem State.recordFault_ports (t : TubeId) (r : FaultRecord) : (s.recordFault t r).ports = s.ports := rfl
@[simp] theorem State.recordFault_bankError (t : TubeId) (r : FaultRecord) : (s.recordFault t r).bankError = s.bankError := rfl
@[simp] theorem State.recordFault_bankEvents (t : TubeId) (r : FaultRecord) : (s.recordFault t r).bankEvents = s.bankEvents := rfl
@[simp] theorem State.recordFault_profile (t : TubeId) (r : FaultRecord) : (s.recordFault t r).profile = s.profile := rfl
@[simp] theorem State.recordFault_b0 (t : TubeId) (r : FaultRecord) : (s.recordFault t r).b0 = s.b0 := rfl
@[simp] theorem State.recordFault_b1 (t : TubeId) (r : FaultRecord) : (s.recordFault t r).b1 = s.b1 := rfl
@[simp] theorem State.recordFault_b2 (t : TubeId) (r : FaultRecord) : (s.recordFault t r).b2 = s.b2 := rfl
@[simp] theorem State.recordFault_jobs (t : TubeId) (r : FaultRecord) : (s.recordFault t r).jobs = s.jobs := rfl
@[simp] theorem State.recordFault_free (t : TubeId) (r : FaultRecord) : (s.recordFault t r).free = s.free := rfl
@[simp] theorem State.recordFault_pending (t : TubeId) (r : FaultRecord) : (s.recordFault t r).pending = s.pending := rfl

@[simp] theorem State.setMark_tubes (m : MarkId) (x : Mark) : (s.setMark m x).tubes = s.tubes := rfl
@[simp] theorem State.setMark_gas (m : MarkId) (x : Mark) : (s.setMark m x).gas = s.gas := rfl
@[simp] theorem State.setMark_power (m : MarkId) (x : Mark) : (s.setMark m x).power = s.power := rfl
@[simp] theorem State.setMark_monitor (m : MarkId) (x : Mark) : (s.setMark m x).monitor = s.monitor := rfl
@[simp] theorem State.setMark_bank (m : MarkId) (x : Mark) : (s.setMark m x).bank = s.bank := rfl
@[simp] theorem State.setMark_link (m : MarkId) (x : Mark) : (s.setMark m x).link = s.link := rfl
@[simp] theorem State.setMark_ports (m : MarkId) (x : Mark) : (s.setMark m x).ports = s.ports := rfl
@[simp] theorem State.setMark_bankError (m : MarkId) (x : Mark) : (s.setMark m x).bankError = s.bankError := rfl
@[simp] theorem State.setMark_bankEvents (m : MarkId) (x : Mark) : (s.setMark m x).bankEvents = s.bankEvents := rfl
@[simp] theorem State.setMark_profile (m : MarkId) (x : Mark) : (s.setMark m x).profile = s.profile := rfl
@[simp] theorem State.setMark_b0 (m : MarkId) (x : Mark) : (s.setMark m x).b0 = s.b0 := rfl
@[simp] theorem State.setMark_b1 (m : MarkId) (x : Mark) : (s.setMark m x).b1 = s.b1 := rfl
@[simp] theorem State.setMark_b2 (m : MarkId) (x : Mark) : (s.setMark m x).b2 = s.b2 := rfl
@[simp] theorem State.setMark_jobs (m : MarkId) (x : Mark) : (s.setMark m x).jobs = s.jobs := rfl
@[simp] theorem State.setMark_free (m : MarkId) (x : Mark) : (s.setMark m x).free = s.free := rfl
@[simp] theorem State.setMark_pending (m : MarkId) (x : Mark) : (s.setMark m x).pending = s.pending := rfl

@[simp] theorem State.push_tubes (js : List Job) : (s.push js).tubes = s.tubes := rfl
@[simp] theorem State.push_marks (js : List Job) : (s.push js).marks = s.marks := rfl
@[simp] theorem State.push_gas (js : List Job) : (s.push js).gas = s.gas := rfl
@[simp] theorem State.push_power (js : List Job) : (s.push js).power = s.power := rfl
@[simp] theorem State.push_monitor (js : List Job) : (s.push js).monitor = s.monitor := rfl
@[simp] theorem State.push_bank (js : List Job) : (s.push js).bank = s.bank := rfl
@[simp] theorem State.push_link (js : List Job) : (s.push js).link = s.link := rfl
@[simp] theorem State.push_ports (js : List Job) : (s.push js).ports = s.ports := rfl
@[simp] theorem State.push_bankError (js : List Job) : (s.push js).bankError = s.bankError := rfl
@[simp] theorem State.push_bankEvents (js : List Job) : (s.push js).bankEvents = s.bankEvents := rfl
@[simp] theorem State.push_profile (js : List Job) : (s.push js).profile = s.profile := rfl
@[simp] theorem State.push_b0 (js : List Job) : (s.push js).b0 = s.b0 := rfl
@[simp] theorem State.push_b1 (js : List Job) : (s.push js).b1 = s.b1 := rfl
@[simp] theorem State.push_b2 (js : List Job) : (s.push js).b2 = s.b2 := rfl
@[simp] theorem State.push_free (js : List Job) : (s.push js).free = s.free := rfl
@[simp] theorem State.push_pending (js : List Job) : (s.push js).pending = s.pending := rfl

@[simp] theorem State.raiseBank_tubes (e : BankEvent) : (s.raiseBank e).tubes = s.tubes := rfl
@[simp] theorem State.raiseBank_marks (e : BankEvent) : (s.raiseBank e).marks = s.marks := rfl
@[simp] theorem State.raiseBank_gas (e : BankEvent) : (s.raiseBank e).gas = s.gas := rfl
@[simp] theorem State.raiseBank_power (e : BankEvent) : (s.raiseBank e).power = s.power := rfl
@[simp] theorem State.raiseBank_monitor (e : BankEvent) : (s.raiseBank e).monitor = s.monitor := rfl
@[simp] theorem State.raiseBank_bank (e : BankEvent) : (s.raiseBank e).bank = s.bank := rfl
@[simp] theorem State.raiseBank_link (e : BankEvent) : (s.raiseBank e).link = s.link := rfl
@[simp] theorem State.raiseBank_ports (e : BankEvent) : (s.raiseBank e).ports = s.ports := rfl
@[simp] theorem State.raiseBank_bankError (e : BankEvent) : (s.raiseBank e).bankError = s.bankError := rfl
@[simp] theorem State.raiseBank_profile (e : BankEvent) : (s.raiseBank e).profile = s.profile := rfl
@[simp] theorem State.raiseBank_b0 (e : BankEvent) : (s.raiseBank e).b0 = s.b0 := rfl
@[simp] theorem State.raiseBank_b1 (e : BankEvent) : (s.raiseBank e).b1 = s.b1 := rfl
@[simp] theorem State.raiseBank_b2 (e : BankEvent) : (s.raiseBank e).b2 = s.b2 := rfl
@[simp] theorem State.raiseBank_jobs (e : BankEvent) : (s.raiseBank e).jobs = s.jobs := rfl
@[simp] theorem State.raiseBank_free (e : BankEvent) : (s.raiseBank e).free = s.free := rfl
@[simp] theorem State.raiseBank_pending (e : BankEvent) : (s.raiseBank e).pending = s.pending := rfl

@[simp] theorem State.recordError_tubes (e : BankError) : (s.recordError e).tubes = s.tubes := rfl
@[simp] theorem State.recordError_marks (e : BankError) : (s.recordError e).marks = s.marks := rfl
@[simp] theorem State.recordError_gas (e : BankError) : (s.recordError e).gas = s.gas := rfl
@[simp] theorem State.recordError_power (e : BankError) : (s.recordError e).power = s.power := rfl
@[simp] theorem State.recordError_monitor (e : BankError) : (s.recordError e).monitor = s.monitor := rfl
@[simp] theorem State.recordError_bank (e : BankError) : (s.recordError e).bank = s.bank := rfl
@[simp] theorem State.recordError_link (e : BankError) : (s.recordError e).link = s.link := rfl
@[simp] theorem State.recordError_ports (e : BankError) : (s.recordError e).ports = s.ports := rfl
@[simp] theorem State.recordError_profile (e : BankError) : (s.recordError e).profile = s.profile := rfl
@[simp] theorem State.recordError_b0 (e : BankError) : (s.recordError e).b0 = s.b0 := rfl
@[simp] theorem State.recordError_b1 (e : BankError) : (s.recordError e).b1 = s.b1 := rfl
@[simp] theorem State.recordError_b2 (e : BankError) : (s.recordError e).b2 = s.b2 := rfl
@[simp] theorem State.recordError_jobs (e : BankError) : (s.recordError e).jobs = s.jobs := rfl
@[simp] theorem State.recordError_free (e : BankError) : (s.recordError e).free = s.free := rfl
@[simp] theorem State.recordError_pending (e : BankError) : (s.recordError e).pending = s.pending := rfl

@[simp] theorem State.setQueue_tubes (q : List GasEntry) : (s.setQueue q).tubes = s.tubes := rfl
@[simp] theorem State.setQueue_marks (q : List GasEntry) : (s.setQueue q).marks = s.marks := rfl
@[simp] theorem State.setQueue_power (q : List GasEntry) : (s.setQueue q).power = s.power := rfl
@[simp] theorem State.setQueue_monitor (q : List GasEntry) : (s.setQueue q).monitor = s.monitor := rfl
@[simp] theorem State.setQueue_bank (q : List GasEntry) : (s.setQueue q).bank = s.bank := rfl
@[simp] theorem State.setQueue_link (q : List GasEntry) : (s.setQueue q).link = s.link := rfl
@[simp] theorem State.setQueue_ports (q : List GasEntry) : (s.setQueue q).ports = s.ports := rfl
@[simp] theorem State.setQueue_bankError (q : List GasEntry) : (s.setQueue q).bankError = s.bankError := rfl
@[simp] theorem State.setQueue_bankEvents (q : List GasEntry) : (s.setQueue q).bankEvents = s.bankEvents := rfl
@[simp] theorem State.setQueue_profile (q : List GasEntry) : (s.setQueue q).profile = s.profile := rfl
@[simp] theorem State.setQueue_b0 (q : List GasEntry) : (s.setQueue q).b0 = s.b0 := rfl
@[simp] theorem State.setQueue_b1 (q : List GasEntry) : (s.setQueue q).b1 = s.b1 := rfl
@[simp] theorem State.setQueue_b2 (q : List GasEntry) : (s.setQueue q).b2 = s.b2 := rfl
@[simp] theorem State.setQueue_jobs (q : List GasEntry) : (s.setQueue q).jobs = s.jobs := rfl
@[simp] theorem State.setQueue_free (q : List GasEntry) : (s.setQueue q).free = s.free := rfl
@[simp] theorem State.setQueue_pending (q : List GasEntry) : (s.setQueue q).pending = s.pending := rfl

@[simp] theorem State.setCapacity_tubes (h : Header) (q : Nat) : (s.setCapacity h q).tubes = s.tubes := rfl
@[simp] theorem State.setCapacity_marks (h : Header) (q : Nat) : (s.setCapacity h q).marks = s.marks := rfl
@[simp] theorem State.setCapacity_power (h : Header) (q : Nat) : (s.setCapacity h q).power = s.power := rfl
@[simp] theorem State.setCapacity_monitor (h : Header) (q : Nat) : (s.setCapacity h q).monitor = s.monitor := rfl
@[simp] theorem State.setCapacity_bank (h : Header) (q : Nat) : (s.setCapacity h q).bank = s.bank := rfl
@[simp] theorem State.setCapacity_link (h : Header) (q : Nat) : (s.setCapacity h q).link = s.link := rfl
@[simp] theorem State.setCapacity_ports (h : Header) (q : Nat) : (s.setCapacity h q).ports = s.ports := rfl
@[simp] theorem State.setCapacity_bankError (h : Header) (q : Nat) : (s.setCapacity h q).bankError = s.bankError := rfl
@[simp] theorem State.setCapacity_bankEvents (h : Header) (q : Nat) : (s.setCapacity h q).bankEvents = s.bankEvents := rfl
@[simp] theorem State.setCapacity_profile (h : Header) (q : Nat) : (s.setCapacity h q).profile = s.profile := rfl
@[simp] theorem State.setCapacity_b0 (h : Header) (q : Nat) : (s.setCapacity h q).b0 = s.b0 := rfl
@[simp] theorem State.setCapacity_b1 (h : Header) (q : Nat) : (s.setCapacity h q).b1 = s.b1 := rfl
@[simp] theorem State.setCapacity_b2 (h : Header) (q : Nat) : (s.setCapacity h q).b2 = s.b2 := rfl
@[simp] theorem State.setCapacity_jobs (h : Header) (q : Nat) : (s.setCapacity h q).jobs = s.jobs := rfl
@[simp] theorem State.setCapacity_free (h : Header) (q : Nat) : (s.setCapacity h q).free = s.free := rfl
@[simp] theorem State.setCapacity_pending (h : Header) (q : Nat) : (s.setCapacity h q).pending = s.pending := rfl

@[simp] theorem State.modGas_tubes (f : GasAllocator → GasAllocator) : (s.modGas f).tubes = s.tubes := rfl
@[simp] theorem State.modGas_marks (f : GasAllocator → GasAllocator) : (s.modGas f).marks = s.marks := rfl
@[simp] theorem State.modGas_power (f : GasAllocator → GasAllocator) : (s.modGas f).power = s.power := rfl
@[simp] theorem State.modGas_monitor (f : GasAllocator → GasAllocator) : (s.modGas f).monitor = s.monitor := rfl
@[simp] theorem State.modGas_bank (f : GasAllocator → GasAllocator) : (s.modGas f).bank = s.bank := rfl
@[simp] theorem State.modGas_link (f : GasAllocator → GasAllocator) : (s.modGas f).link = s.link := rfl
@[simp] theorem State.modGas_ports (f : GasAllocator → GasAllocator) : (s.modGas f).ports = s.ports := rfl
@[simp] theorem State.modGas_bankError (f : GasAllocator → GasAllocator) : (s.modGas f).bankError = s.bankError := rfl
@[simp] theorem State.modGas_bankEvents (f : GasAllocator → GasAllocator) : (s.modGas f).bankEvents = s.bankEvents := rfl
@[simp] theorem State.modGas_profile (f : GasAllocator → GasAllocator) : (s.modGas f).profile = s.profile := rfl
@[simp] theorem State.modGas_b0 (f : GasAllocator → GasAllocator) : (s.modGas f).b0 = s.b0 := rfl
@[simp] theorem State.modGas_b1 (f : GasAllocator → GasAllocator) : (s.modGas f).b1 = s.b1 := rfl
@[simp] theorem State.modGas_b2 (f : GasAllocator → GasAllocator) : (s.modGas f).b2 = s.b2 := rfl
@[simp] theorem State.modGas_jobs (f : GasAllocator → GasAllocator) : (s.modGas f).jobs = s.jobs := rfl
@[simp] theorem State.modGas_free (f : GasAllocator → GasAllocator) : (s.modGas f).free = s.free := rfl
@[simp] theorem State.modGas_pending (f : GasAllocator → GasAllocator) : (s.modGas f).pending = s.pending := rfl

@[simp] theorem State.noteBank_tubes (old : State) : (s.noteBank old).tubes = s.tubes := by
  unfold State.noteBank State.notePort; split <;> rfl
@[simp] theorem State.noteBank_marks (old : State) : (s.noteBank old).marks = s.marks := by
  unfold State.noteBank State.notePort; split <;> rfl
@[simp] theorem State.noteBank_gas (old : State) : (s.noteBank old).gas = s.gas := by
  unfold State.noteBank State.notePort; split <;> rfl
@[simp] theorem State.noteBank_power (old : State) : (s.noteBank old).power = s.power := by
  unfold State.noteBank State.notePort; split <;> rfl
@[simp] theorem State.noteBank_monitor (old : State) : (s.noteBank old).monitor = s.monitor := by
  unfold State.noteBank State.notePort; split <;> rfl
@[simp] theorem State.noteBank_bank (old : State) : (s.noteBank old).bank = s.bank := by
  unfold State.noteBank State.notePort; split <;> rfl
@[simp] theorem State.noteBank_link (old : State) : (s.noteBank old).link = s.link := by
  unfold State.noteBank State.notePort; split <;> rfl
@[simp] theorem State.noteBank_bankError (old : State) : (s.noteBank old).bankError = s.bankError := by
  unfold State.noteBank State.notePort; split <;> rfl
@[simp] theorem State.noteBank_bankEvents (old : State) : (s.noteBank old).bankEvents = s.bankEvents := by
  unfold State.noteBank State.notePort; split <;> rfl
@[simp] theorem State.noteBank_profile (old : State) : (s.noteBank old).profile = s.profile := by
  unfold State.noteBank State.notePort; split <;> rfl
@[simp] theorem State.noteBank_b0 (old : State) : (s.noteBank old).b0 = s.b0 := by
  unfold State.noteBank State.notePort; split <;> rfl
@[simp] theorem State.noteBank_b1 (old : State) : (s.noteBank old).b1 = s.b1 := by
  unfold State.noteBank State.notePort; split <;> rfl
@[simp] theorem State.noteBank_b2 (old : State) : (s.noteBank old).b2 = s.b2 := by
  unfold State.noteBank State.notePort; split <;> rfl
@[simp] theorem State.noteBank_jobs (old : State) : (s.noteBank old).jobs = s.jobs := by
  unfold State.noteBank State.notePort; split <;> rfl
@[simp] theorem State.noteBank_free (old : State) : (s.noteBank old).free = s.free := by
  unfold State.noteBank State.notePort; split <;> rfl
@[simp] theorem State.noteBank_pending (old : State) : (s.noteBank old).pending = s.pending := by
  unfold State.noteBank State.notePort; split <;> rfl

@[simp] theorem State.demandNote_tubes (p : Port) : (s.demandNote p).tubes = s.tubes := by cases p <;> rfl
@[simp] theorem State.demandNote_marks (p : Port) : (s.demandNote p).marks = s.marks := by cases p <;> rfl
@[simp] theorem State.demandNote_gas (p : Port) : (s.demandNote p).gas = s.gas := by cases p <;> rfl
@[simp] theorem State.demandNote_power (p : Port) : (s.demandNote p).power = s.power := by cases p <;> rfl
@[simp] theorem State.demandNote_monitor (p : Port) : (s.demandNote p).monitor = s.monitor := by cases p <;> rfl
@[simp] theorem State.demandNote_bank (p : Port) : (s.demandNote p).bank = s.bank := by cases p <;> rfl
@[simp] theorem State.demandNote_link (p : Port) : (s.demandNote p).link = s.link := by cases p <;> rfl
@[simp] theorem State.demandNote_bankError (p : Port) : (s.demandNote p).bankError = s.bankError := by cases p <;> rfl
@[simp] theorem State.demandNote_bankEvents (p : Port) : (s.demandNote p).bankEvents = s.bankEvents := by cases p <;> rfl
@[simp] theorem State.demandNote_profile (p : Port) : (s.demandNote p).profile = s.profile := by cases p <;> rfl
@[simp] theorem State.demandNote_b0 (p : Port) : (s.demandNote p).b0 = s.b0 := by cases p <;> rfl
@[simp] theorem State.demandNote_b1 (p : Port) : (s.demandNote p).b1 = s.b1 := by cases p <;> rfl
@[simp] theorem State.demandNote_b2 (p : Port) : (s.demandNote p).b2 = s.b2 := by cases p <;> rfl
@[simp] theorem State.demandNote_jobs (p : Port) : (s.demandNote p).jobs = s.jobs := by cases p <;> rfl
@[simp] theorem State.demandNote_free (p : Port) : (s.demandNote p).free = s.free := by cases p <;> rfl
@[simp] theorem State.demandNote_pending (p : Port) : (s.demandNote p).pending = s.pending := by cases p <;> rfl

@[simp] theorem State.noteGas_marks (t : TubeId) (g : TubeGas) : (s.noteGas t g).marks = s.marks :=
  State.noteBank_marks _ s
@[simp] theorem State.noteGas_gas (t : TubeId) (g : TubeGas) : (s.noteGas t g).gas = s.gas :=
  State.noteBank_gas _ s
@[simp] theorem State.noteGas_power (t : TubeId) (g : TubeGas) : (s.noteGas t g).power = s.power :=
  State.noteBank_power _ s
@[simp] theorem State.noteGas_monitor (t : TubeId) (g : TubeGas) : (s.noteGas t g).monitor = s.monitor :=
  State.noteBank_monitor _ s
@[simp] theorem State.noteGas_bank (t : TubeId) (g : TubeGas) : (s.noteGas t g).bank = s.bank :=
  State.noteBank_bank _ s
@[simp] theorem State.noteGas_link (t : TubeId) (g : TubeGas) : (s.noteGas t g).link = s.link :=
  State.noteBank_link _ s
@[simp] theorem State.noteGas_bankError (t : TubeId) (g : TubeGas) : (s.noteGas t g).bankError = s.bankError :=
  State.noteBank_bankError _ s
@[simp] theorem State.noteGas_bankEvents (t : TubeId) (g : TubeGas) : (s.noteGas t g).bankEvents = s.bankEvents :=
  State.noteBank_bankEvents _ s
@[simp] theorem State.noteGas_profile (t : TubeId) (g : TubeGas) : (s.noteGas t g).profile = s.profile :=
  State.noteBank_profile _ s
@[simp] theorem State.noteGas_b0 (t : TubeId) (g : TubeGas) : (s.noteGas t g).b0 = s.b0 :=
  State.noteBank_b0 _ s
@[simp] theorem State.noteGas_b1 (t : TubeId) (g : TubeGas) : (s.noteGas t g).b1 = s.b1 :=
  State.noteBank_b1 _ s
@[simp] theorem State.noteGas_b2 (t : TubeId) (g : TubeGas) : (s.noteGas t g).b2 = s.b2 :=
  State.noteBank_b2 _ s
@[simp] theorem State.noteGas_jobs (t : TubeId) (g : TubeGas) : (s.noteGas t g).jobs = s.jobs :=
  State.noteBank_jobs _ s
@[simp] theorem State.noteGas_free (t : TubeId) (g : TubeGas) : (s.noteGas t g).free = s.free :=
  State.noteBank_free _ s
@[simp] theorem State.noteGas_pending (t : TubeId) (g : TubeGas) : (s.noteGas t g).pending = s.pending :=
  State.noteBank_pending _ s

@[simp] theorem State.noteGas_tubes (t : TubeId) (g : TubeGas) :
    (s.noteGas t g).tubes = (s.modTube t fun x => { x with gas := g }).tubes := State.noteBank_tubes _ s

@[simp] theorem State.modPower_tubes (f : PowerAllocator → PowerAllocator) : (s.modPower f).tubes = s.tubes :=
  State.noteBank_tubes _ s
@[simp] theorem State.modPower_marks (f : PowerAllocator → PowerAllocator) : (s.modPower f).marks = s.marks :=
  State.noteBank_marks _ s
@[simp] theorem State.modPower_gas (f : PowerAllocator → PowerAllocator) : (s.modPower f).gas = s.gas :=
  State.noteBank_gas _ s
@[simp] theorem State.modPower_power (f : PowerAllocator → PowerAllocator) : (s.modPower f).power = f s.power :=
  State.noteBank_power _ s
@[simp] theorem State.modPower_monitor (f : PowerAllocator → PowerAllocator) : (s.modPower f).monitor = s.monitor :=
  State.noteBank_monitor _ s
@[simp] theorem State.modPower_bank (f : PowerAllocator → PowerAllocator) : (s.modPower f).bank = s.bank :=
  State.noteBank_bank _ s
@[simp] theorem State.modPower_link (f : PowerAllocator → PowerAllocator) : (s.modPower f).link = s.link :=
  State.noteBank_link _ s
@[simp] theorem State.modPower_bankError (f : PowerAllocator → PowerAllocator) : (s.modPower f).bankError = s.bankError :=
  State.noteBank_bankError _ s
@[simp] theorem State.modPower_bankEvents (f : PowerAllocator → PowerAllocator) : (s.modPower f).bankEvents = s.bankEvents :=
  State.noteBank_bankEvents _ s
@[simp] theorem State.modPower_profile (f : PowerAllocator → PowerAllocator) : (s.modPower f).profile = s.profile :=
  State.noteBank_profile _ s
@[simp] theorem State.modPower_b0 (f : PowerAllocator → PowerAllocator) : (s.modPower f).b0 = s.b0 :=
  State.noteBank_b0 _ s
@[simp] theorem State.modPower_b1 (f : PowerAllocator → PowerAllocator) : (s.modPower f).b1 = s.b1 :=
  State.noteBank_b1 _ s
@[simp] theorem State.modPower_b2 (f : PowerAllocator → PowerAllocator) : (s.modPower f).b2 = s.b2 :=
  State.noteBank_b2 _ s
@[simp] theorem State.modPower_jobs (f : PowerAllocator → PowerAllocator) : (s.modPower f).jobs = s.jobs :=
  State.noteBank_jobs _ s
@[simp] theorem State.modPower_free (f : PowerAllocator → PowerAllocator) : (s.modPower f).free = s.free :=
  State.noteBank_free _ s
@[simp] theorem State.modPower_pending (f : PowerAllocator → PowerAllocator) : (s.modPower f).pending = s.pending :=
  State.noteBank_pending _ s

@[simp] theorem State.modBank_tubes (f : BankSettings → BankSettings) : (s.modBank f).tubes = s.tubes := rfl
@[simp] theorem State.modBank_marks (f : BankSettings → BankSettings) : (s.modBank f).marks = s.marks := rfl
@[simp] theorem State.modBank_gas (f : BankSettings → BankSettings) : (s.modBank f).gas = s.gas := rfl
@[simp] theorem State.modBank_power (f : BankSettings → BankSettings) : (s.modBank f).power = s.power := rfl
@[simp] theorem State.modBank_monitor (f : BankSettings → BankSettings) : (s.modBank f).monitor = s.monitor := rfl
@[simp] theorem State.modBank_link (f : BankSettings → BankSettings) : (s.modBank f).link = s.link := rfl
@[simp] theorem State.modBank_ports (f : BankSettings → BankSettings) : (s.modBank f).ports = s.ports := rfl
@[simp] theorem State.modBank_bankError (f : BankSettings → BankSettings) : (s.modBank f).bankError = s.bankError := rfl
@[simp] theorem State.modBank_bankEvents (f : BankSettings → BankSettings) : (s.modBank f).bankEvents = s.bankEvents := rfl
@[simp] theorem State.modBank_profile (f : BankSettings → BankSettings) : (s.modBank f).profile = s.profile := rfl
@[simp] theorem State.modBank_b0 (f : BankSettings → BankSettings) : (s.modBank f).b0 = s.b0 := rfl
@[simp] theorem State.modBank_b1 (f : BankSettings → BankSettings) : (s.modBank f).b1 = s.b1 := rfl
@[simp] theorem State.modBank_b2 (f : BankSettings → BankSettings) : (s.modBank f).b2 = s.b2 := rfl
@[simp] theorem State.modBank_jobs (f : BankSettings → BankSettings) : (s.modBank f).jobs = s.jobs := rfl
@[simp] theorem State.modBank_free (f : BankSettings → BankSettings) : (s.modBank f).free = s.free := rfl
@[simp] theorem State.modBank_pending (f : BankSettings → BankSettings) : (s.modBank f).pending = s.pending := rfl

@[simp] theorem State.modMonitor_tubes (f : Monitor → Monitor) : (s.modMonitor f).tubes = s.tubes := rfl
@[simp] theorem State.modMonitor_marks (f : Monitor → Monitor) : (s.modMonitor f).marks = s.marks := rfl
@[simp] theorem State.modMonitor_gas (f : Monitor → Monitor) : (s.modMonitor f).gas = s.gas := rfl
@[simp] theorem State.modMonitor_power (f : Monitor → Monitor) : (s.modMonitor f).power = s.power := rfl
@[simp] theorem State.modMonitor_bank (f : Monitor → Monitor) : (s.modMonitor f).bank = s.bank := rfl
@[simp] theorem State.modMonitor_link (f : Monitor → Monitor) : (s.modMonitor f).link = s.link := rfl
@[simp] theorem State.modMonitor_ports (f : Monitor → Monitor) : (s.modMonitor f).ports = s.ports := rfl
@[simp] theorem State.modMonitor_bankError (f : Monitor → Monitor) : (s.modMonitor f).bankError = s.bankError := rfl
@[simp] theorem State.modMonitor_bankEvents (f : Monitor → Monitor) : (s.modMonitor f).bankEvents = s.bankEvents := rfl
@[simp] theorem State.modMonitor_profile (f : Monitor → Monitor) : (s.modMonitor f).profile = s.profile := rfl
@[simp] theorem State.modMonitor_b0 (f : Monitor → Monitor) : (s.modMonitor f).b0 = s.b0 := rfl
@[simp] theorem State.modMonitor_b1 (f : Monitor → Monitor) : (s.modMonitor f).b1 = s.b1 := rfl
@[simp] theorem State.modMonitor_b2 (f : Monitor → Monitor) : (s.modMonitor f).b2 = s.b2 := rfl
@[simp] theorem State.modMonitor_jobs (f : Monitor → Monitor) : (s.modMonitor f).jobs = s.jobs := rfl
@[simp] theorem State.modMonitor_free (f : Monitor → Monitor) : (s.modMonitor f).free = s.free := rfl
@[simp] theorem State.modMonitor_pending (f : Monitor → Monitor) : (s.modMonitor f).pending = s.pending := rfl

@[simp] theorem State.modLink_tubes (f : FieldLink → FieldLink) : (s.modLink f).tubes = s.tubes := rfl
@[simp] theorem State.modLink_marks (f : FieldLink → FieldLink) : (s.modLink f).marks = s.marks := rfl
@[simp] theorem State.modLink_gas (f : FieldLink → FieldLink) : (s.modLink f).gas = s.gas := rfl
@[simp] theorem State.modLink_power (f : FieldLink → FieldLink) : (s.modLink f).power = s.power := rfl
@[simp] theorem State.modLink_monitor (f : FieldLink → FieldLink) : (s.modLink f).monitor = s.monitor := rfl
@[simp] theorem State.modLink_bank (f : FieldLink → FieldLink) : (s.modLink f).bank = s.bank := rfl
@[simp] theorem State.modLink_ports (f : FieldLink → FieldLink) : (s.modLink f).ports = s.ports := rfl
@[simp] theorem State.modLink_bankError (f : FieldLink → FieldLink) : (s.modLink f).bankError = s.bankError := rfl
@[simp] theorem State.modLink_bankEvents (f : FieldLink → FieldLink) : (s.modLink f).bankEvents = s.bankEvents := rfl
@[simp] theorem State.modLink_profile (f : FieldLink → FieldLink) : (s.modLink f).profile = s.profile := rfl
@[simp] theorem State.modLink_b0 (f : FieldLink → FieldLink) : (s.modLink f).b0 = s.b0 := rfl
@[simp] theorem State.modLink_b1 (f : FieldLink → FieldLink) : (s.modLink f).b1 = s.b1 := rfl
@[simp] theorem State.modLink_b2 (f : FieldLink → FieldLink) : (s.modLink f).b2 = s.b2 := rfl
@[simp] theorem State.modLink_jobs (f : FieldLink → FieldLink) : (s.modLink f).jobs = s.jobs := rfl
@[simp] theorem State.modLink_free (f : FieldLink → FieldLink) : (s.modLink f).free = s.free := rfl
@[simp] theorem State.modLink_pending (f : FieldLink → FieldLink) : (s.modLink f).pending = s.pending := rfl

@[simp] theorem State.writeRecord_tubes (i : Nat) (r : List Byte) : (s.writeRecord i r).tubes = s.tubes := rfl
@[simp] theorem State.writeRecord_marks (i : Nat) (r : List Byte) : (s.writeRecord i r).marks = s.marks := rfl
@[simp] theorem State.writeRecord_gas (i : Nat) (r : List Byte) : (s.writeRecord i r).gas = s.gas := rfl
@[simp] theorem State.writeRecord_power (i : Nat) (r : List Byte) : (s.writeRecord i r).power = s.power := rfl
@[simp] theorem State.writeRecord_monitor (i : Nat) (r : List Byte) : (s.writeRecord i r).monitor = s.monitor := rfl
@[simp] theorem State.writeRecord_bank (i : Nat) (r : List Byte) : (s.writeRecord i r).bank = s.bank := rfl
@[simp] theorem State.writeRecord_link (i : Nat) (r : List Byte) : (s.writeRecord i r).link = s.link := rfl
@[simp] theorem State.writeRecord_ports (i : Nat) (r : List Byte) : (s.writeRecord i r).ports = s.ports := rfl
@[simp] theorem State.writeRecord_bankError (i : Nat) (r : List Byte) : (s.writeRecord i r).bankError = s.bankError := rfl
@[simp] theorem State.writeRecord_bankEvents (i : Nat) (r : List Byte) : (s.writeRecord i r).bankEvents = s.bankEvents := rfl
@[simp] theorem State.writeRecord_b0 (i : Nat) (r : List Byte) : (s.writeRecord i r).b0 = s.b0 := rfl
@[simp] theorem State.writeRecord_b1 (i : Nat) (r : List Byte) : (s.writeRecord i r).b1 = s.b1 := rfl
@[simp] theorem State.writeRecord_b2 (i : Nat) (r : List Byte) : (s.writeRecord i r).b2 = s.b2 := rfl
@[simp] theorem State.writeRecord_jobs (i : Nat) (r : List Byte) : (s.writeRecord i r).jobs = s.jobs := rfl
@[simp] theorem State.writeRecord_free (i : Nat) (r : List Byte) : (s.writeRecord i r).free = s.free := rfl
@[simp] theorem State.writeRecord_pending (i : Nat) (r : List Byte) : (s.writeRecord i r).pending = s.pending := rfl

@[simp] theorem State.setPort_tubes (p : Port) (e : PortEngine) : (s.setPort p e).tubes = s.tubes := by
  cases p <;> rfl
@[simp] theorem State.modPort_tubes (p : Port) (f : PortEngine → PortEngine) : (s.modPort p f).tubes = s.tubes := by
  cases p <;> rfl
@[simp] theorem State.addReply_tubes (p : Port) (f : Frame) : (s.addReply p f).tubes = s.tubes := by
  cases p <;> rfl
@[simp] theorem State.setPort_marks (p : Port) (e : PortEngine) : (s.setPort p e).marks = s.marks := by
  cases p <;> rfl
@[simp] theorem State.modPort_marks (p : Port) (f : PortEngine → PortEngine) : (s.modPort p f).marks = s.marks := by
  cases p <;> rfl
@[simp] theorem State.addReply_marks (p : Port) (f : Frame) : (s.addReply p f).marks = s.marks := by
  cases p <;> rfl
@[simp] theorem State.setPort_gas (p : Port) (e : PortEngine) : (s.setPort p e).gas = s.gas := by
  cases p <;> rfl
@[simp] theorem State.modPort_gas (p : Port) (f : PortEngine → PortEngine) : (s.modPort p f).gas = s.gas := by
  cases p <;> rfl
@[simp] theorem State.addReply_gas (p : Port) (f : Frame) : (s.addReply p f).gas = s.gas := by
  cases p <;> rfl
@[simp] theorem State.setPort_power (p : Port) (e : PortEngine) : (s.setPort p e).power = s.power := by
  cases p <;> rfl
@[simp] theorem State.modPort_power (p : Port) (f : PortEngine → PortEngine) : (s.modPort p f).power = s.power := by
  cases p <;> rfl
@[simp] theorem State.addReply_power (p : Port) (f : Frame) : (s.addReply p f).power = s.power := by
  cases p <;> rfl
@[simp] theorem State.setPort_monitor (p : Port) (e : PortEngine) : (s.setPort p e).monitor = s.monitor := by
  cases p <;> rfl
@[simp] theorem State.modPort_monitor (p : Port) (f : PortEngine → PortEngine) : (s.modPort p f).monitor = s.monitor := by
  cases p <;> rfl
@[simp] theorem State.addReply_monitor (p : Port) (f : Frame) : (s.addReply p f).monitor = s.monitor := by
  cases p <;> rfl
@[simp] theorem State.setPort_bank (p : Port) (e : PortEngine) : (s.setPort p e).bank = s.bank := by
  cases p <;> rfl
@[simp] theorem State.modPort_bank (p : Port) (f : PortEngine → PortEngine) : (s.modPort p f).bank = s.bank := by
  cases p <;> rfl
@[simp] theorem State.addReply_bank (p : Port) (f : Frame) : (s.addReply p f).bank = s.bank := by
  cases p <;> rfl
@[simp] theorem State.setPort_link (p : Port) (e : PortEngine) : (s.setPort p e).link = s.link := by
  cases p <;> rfl
@[simp] theorem State.modPort_link (p : Port) (f : PortEngine → PortEngine) : (s.modPort p f).link = s.link := by
  cases p <;> rfl
@[simp] theorem State.addReply_link (p : Port) (f : Frame) : (s.addReply p f).link = s.link := by
  cases p <;> rfl
@[simp] theorem State.setPort_bankError (p : Port) (e : PortEngine) : (s.setPort p e).bankError = s.bankError := by
  cases p <;> rfl
@[simp] theorem State.modPort_bankError (p : Port) (f : PortEngine → PortEngine) : (s.modPort p f).bankError = s.bankError := by
  cases p <;> rfl
@[simp] theorem State.addReply_bankError (p : Port) (f : Frame) : (s.addReply p f).bankError = s.bankError := by
  cases p <;> rfl
@[simp] theorem State.setPort_bankEvents (p : Port) (e : PortEngine) : (s.setPort p e).bankEvents = s.bankEvents := by
  cases p <;> rfl
@[simp] theorem State.modPort_bankEvents (p : Port) (f : PortEngine → PortEngine) : (s.modPort p f).bankEvents = s.bankEvents := by
  cases p <;> rfl
@[simp] theorem State.addReply_bankEvents (p : Port) (f : Frame) : (s.addReply p f).bankEvents = s.bankEvents := by
  cases p <;> rfl
@[simp] theorem State.setPort_profile (p : Port) (e : PortEngine) : (s.setPort p e).profile = s.profile := by
  cases p <;> rfl
@[simp] theorem State.modPort_profile (p : Port) (f : PortEngine → PortEngine) : (s.modPort p f).profile = s.profile := by
  cases p <;> rfl
@[simp] theorem State.addReply_profile (p : Port) (f : Frame) : (s.addReply p f).profile = s.profile := by
  cases p <;> rfl
@[simp] theorem State.setPort_b0 (p : Port) (e : PortEngine) : (s.setPort p e).b0 = s.b0 := by
  cases p <;> rfl
@[simp] theorem State.modPort_b0 (p : Port) (f : PortEngine → PortEngine) : (s.modPort p f).b0 = s.b0 := by
  cases p <;> rfl
@[simp] theorem State.addReply_b0 (p : Port) (f : Frame) : (s.addReply p f).b0 = s.b0 := by
  cases p <;> rfl
@[simp] theorem State.setPort_b1 (p : Port) (e : PortEngine) : (s.setPort p e).b1 = s.b1 := by
  cases p <;> rfl
@[simp] theorem State.modPort_b1 (p : Port) (f : PortEngine → PortEngine) : (s.modPort p f).b1 = s.b1 := by
  cases p <;> rfl
@[simp] theorem State.addReply_b1 (p : Port) (f : Frame) : (s.addReply p f).b1 = s.b1 := by
  cases p <;> rfl
@[simp] theorem State.setPort_b2 (p : Port) (e : PortEngine) : (s.setPort p e).b2 = s.b2 := by
  cases p <;> rfl
@[simp] theorem State.modPort_b2 (p : Port) (f : PortEngine → PortEngine) : (s.modPort p f).b2 = s.b2 := by
  cases p <;> rfl
@[simp] theorem State.addReply_b2 (p : Port) (f : Frame) : (s.addReply p f).b2 = s.b2 := by
  cases p <;> rfl
@[simp] theorem State.setPort_jobs (p : Port) (e : PortEngine) : (s.setPort p e).jobs = s.jobs := by
  cases p <;> rfl
@[simp] theorem State.modPort_jobs (p : Port) (f : PortEngine → PortEngine) : (s.modPort p f).jobs = s.jobs := by
  cases p <;> rfl
@[simp] theorem State.addReply_jobs (p : Port) (f : Frame) : (s.addReply p f).jobs = s.jobs := by
  cases p <;> rfl
@[simp] theorem State.setPort_free (p : Port) (e : PortEngine) : (s.setPort p e).free = s.free := by
  cases p <;> rfl
@[simp] theorem State.modPort_free (p : Port) (f : PortEngine → PortEngine) : (s.modPort p f).free = s.free := by
  cases p <;> rfl
@[simp] theorem State.addReply_free (p : Port) (f : Frame) : (s.addReply p f).free = s.free := by
  cases p <;> rfl
@[simp] theorem State.setPort_pending (p : Port) (e : PortEngine) : (s.setPort p e).pending = s.pending := by
  cases p <;> rfl
@[simp] theorem State.modPort_pending (p : Port) (f : PortEngine → PortEngine) : (s.modPort p f).pending = s.pending := by
  cases p <;> rfl
@[simp] theorem State.addReply_pending (p : Port) (f : Frame) : (s.addReply p f).pending = s.pending := by
  cases p <;> rfl

/-! ### Tubes -/

@[simp] theorem State.tube_setTube (t u : TubeId) (x : Tube) :
    (s.setTube t x).tube u = if u = t then x else s.tube u := PerTube.get_set _ _ _ _

@[simp] theorem State.tube_modTube (t u : TubeId) (f : Tube → Tube) :
    (s.modTube t f).tube u = if u = t then f (s.tube t) else s.tube u := PerTube.get_set _ _ _ _

@[simp] theorem State.tube_setMode (t u : TubeId) (m : Mode) :
    (s.setMode t m).tube u = if u = t then { s.tube t with mode := m } else s.tube u := PerTube.get_set _ _ _ _

@[simp] theorem State.tube_setStep (t u : TubeId) (st : Option ActiveStep) :
    (s.setStep t st).tube u = if u = t then { s.tube t with step := st } else s.tube u := PerTube.get_set _ _ _ _

@[simp] theorem State.tube_modSettings (t u : TubeId) (f : TubeSettings → TubeSettings) :
    (s.modSettings t f).tube u =
      if u = t then { s.tube t with settings := f (s.tube t).settings } else s.tube u := PerTube.get_set _ _ _ _

@[simp] theorem State.tube_recordFault (t u : TubeId) (r : FaultRecord) :
    (s.recordFault t r).tube u = if u = t then { s.tube t with lastFault := some r } else s.tube u :=
  PerTube.get_set _ _ _ _

/-- A tube's event requests after an event: its kind joins them where its enable is set (R24). -/
theorem Event.joined (x : Tube) (e : Event) :
    (if x.settings.enables &&& e.bit = 0 then x else { x with events := x.events ||| e.bit }) =
      { x with events := x.events ||| (e.bit &&& x.settings.enables) } := by
  have h : x.settings.enables &&& e.bit = 0 ∨ e.bit &&& x.settings.enables = e.bit := by
    have key : ∀ (v : BitVec 15) (i : Nat), i < 15 →
        v &&& BitVec.ofNat 15 (2 ^ i) = 0 ∨ BitVec.ofNat 15 (2 ^ i) &&& v = BitVec.ofNat 15 (2 ^ i) := by
      intro v i hi
      have hp : BitVec.ofNat 15 (2 ^ i) = BitVec.twoPow 15 i := by
        apply BitVec.eq_of_toNat_eq; simp
      rw [hp, BitVec.and_twoPow, BitVec.and_comm, BitVec.and_twoPow]
      cases v.getLsbD i <;> simp
    exact key _ e.num (by cases e <;> decide)
  rcases h with h | h
  · rw [if_pos h, BitVec.and_comm, h]; cases x; simp
  · by_cases h0 : x.settings.enables &&& e.bit = 0
    · rw [if_pos h0, BitVec.and_comm, h0]; cases x; simp
    · rw [if_neg h0, h]

@[simp] theorem State.tube_raise (t u : TubeId) (e : Event) :
    (s.raise t e).tube u =
      if u = t then { s.tube t with events := (s.tube t).events ||| (e.bit &&& (s.tube t).settings.enables) }
      else s.tube u := by
  unfold State.raise
  rw [State.tube_modTube, Event.joined]

@[simp] theorem State.tube_push (js : List Job) (u : TubeId) : (s.push js).tube u = s.tube u := rfl
@[simp] theorem State.tube_raiseBank (e : BankEvent) (u : TubeId) : (s.raiseBank e).tube u = s.tube u := rfl
@[simp] theorem State.tube_recordError (e : BankError) (u : TubeId) : (s.recordError e).tube u = s.tube u := rfl
@[simp] theorem State.tube_setMark (m : MarkId) (x : Mark) (u : TubeId) : (s.setMark m x).tube u = s.tube u := rfl
@[simp] theorem State.tube_setQueue (q : List GasEntry) (u : TubeId) : (s.setQueue q).tube u = s.tube u := rfl
@[simp] theorem State.tube_modPower (f : PowerAllocator → PowerAllocator) (u : TubeId) :
    (s.modPower f).tube u = s.tube u := by
  unfold State.tube; rw [State.modPower_tubes]
@[simp] theorem State.tube_modGas (f : GasAllocator → GasAllocator) (u : TubeId) : (s.modGas f).tube u = s.tube u := rfl
@[simp] theorem State.tube_modBank (f : BankSettings → BankSettings) (u : TubeId) :
    (s.modBank f).tube u = s.tube u := rfl
@[simp] theorem State.tube_modMonitor (f : Monitor → Monitor) (u : TubeId) :
    (s.modMonitor f).tube u = s.tube u := rfl
@[simp] theorem State.tube_modLink (f : FieldLink → FieldLink) (u : TubeId) : (s.modLink f).tube u = s.tube u := rfl
@[simp] theorem State.tube_setCapacity (h : Header) (q : Nat) (u : TubeId) :
    (s.setCapacity h q).tube u = s.tube u := rfl

@[simp] theorem State.tube_setPort (p : Port) (e : PortEngine) (u : TubeId) : (s.setPort p e).tube u = s.tube u := by
  cases p <;> rfl
@[simp] theorem State.tube_modPort (p : Port) (f : PortEngine → PortEngine) (u : TubeId) :
    (s.modPort p f).tube u = s.tube u := by cases p <;> rfl
@[simp] theorem State.tube_demandNote (p : Port) (u : TubeId) : (s.demandNote p).tube u = s.tube u := by
  cases p <;> rfl
@[simp] theorem State.tube_noteGas (t u : TubeId) (g : TubeGas) :
    (s.noteGas t g).tube u = if u = t then { s.tube t with gas := g } else s.tube u := by
  unfold State.tube; rw [State.noteGas_tubes]; exact State.tube_modTube s t u _
@[simp] theorem State.tube_addReply (p : Port) (f : Frame) (u : TubeId) : (s.addReply p f).tube u = s.tube u := by
  cases p <;> rfl

/-! ### Acts put forward, marks, ports, proofs -/

@[simp] theorem State.push_jobs (js : List Job) : (s.push js).jobs = s.jobs ++ js := rfl

@[simp] theorem State.raiseBank_bankEvents (e : BankEvent) : (s.raiseBank e).bankEvents = s.bankEvents ||| e.bit := rfl

@[simp] theorem State.recordError_bankError (e : BankError) : (s.recordError e).bankError = some e := rfl

@[simp] theorem State.recordError_bankEvents (e : BankError) :
    (s.recordError e).bankEvents = s.bankEvents ||| BankEvent.errorRecorded.bit := rfl

@[simp] theorem State.mark_setMark (m k : MarkId) (x : Mark) : (s.setMark m x).mark k = if k = m then x else s.mark k :=
  PerMark.get_set _ _ _ _

@[simp] theorem State.port_setPort (p q : Port) (e : PortEngine) :
    (s.setPort p e).port q = if q = p then e else s.port q := by
  rcases p with t | _ <;> rcases q with u | _
  · have h := PerTube.get_set s.ports.station t u e
    show (s.ports.station.set t e).get u = _
    rw [h]
    by_cases hu : u = t
    · simp [hu]
    · simp [hu, State.port]
  · rfl
  · rfl
  · rfl

@[simp] theorem State.port_modPort (p q : Port) (f : PortEngine → PortEngine) :
    (s.modPort p f).port q = if q = p then f (s.port p) else s.port q := State.port_setPort s p q _

@[simp] theorem State.port_demandNote (p q : Port) :
    (s.demandNote p).port q = if q = p then { s.port p with notePending := true } else s.port q :=
  State.port_setPort s p q _

@[simp] theorem State.port_addReply (p q : Port) (f : Frame) :
    (s.addReply p f).port q =
      if q = p then { s.port p with replies := (s.port p).replies ++ [f] } else s.port q := State.port_setPort s p q _

theorem State.port_eq {u : State} (h : u.ports = s.ports) (p : Port) : u.port p = s.port p := by
  cases p <;> simp [State.port, h]

@[simp] theorem State.setPort_self (p : Port) : s.setPort p (s.port p) = s := by
  rcases p with t | _
  · cases t <;> rfl
  · rfl

@[simp] theorem State.setTube_self (t : TubeId) : s.setTube t (s.tube t) = s := by cases t <;> rfl

@[simp] theorem State.proof_setProof_self (p : ProofId) (x : Proof) : (s.setProof p x).proof p = x := by
  rcases p with ⟨t, k⟩ | k
  · cases k <;> simp [State.setProof, State.proof]
  · cases k <;> rfl

/-- A proof read after another was replaced. -/
theorem State.proof_setProof (p q : ProofId) (x : Proof) :
    (s.setProof p x).proof q = if q = p then x else s.proof q := by
  by_cases h : q = p
  · rw [h, if_pos rfl, State.proof_setProof_self]
  · rw [if_neg h]
    rcases p with ⟨t, k⟩ | k <;> rcases q with ⟨u, j⟩ | j <;> cases k <;> cases j <;>
      simp_all [State.setProof, State.proof] <;> (try rfl) <;> (split <;> simp_all)

end Sys2Proof.Machine
end

