-- ==== Sys2Proof/Laws/Kept.lean ====
section
/-!
SUPPORT. What the acts of the sequencers, the allocators and the Condition Monitor never change (`State.kept`): one lemma
for each shared operation, and for the running of every act that follows on a command.
-/

namespace Sys2Proof.Machine

open Sys2Proof

variable (s : State)

/-! ### Record updates -/

theorem State.kept_setTube {t : TubeId} {x : Tube} (h : x.kept = (s.tube t).kept) : (s.setTube t x).kept = s.kept := by
  have : (PerTube.of fun u => ((s.tubes.set t x).get u).kept) = PerTube.of fun u => (s.tubes.get u).kept := by
    apply PerTube.ext_get
    intro u
    rw [PerTube.get_of, PerTube.get_of, PerTube.get_set]
    split
    · rename_i e; rw [e]; exact h
    · rfl
  unfold State.kept State.setTube
  simp only [this]

theorem State.kept_modTube {t : TubeId} {f : Tube → Tube} (h : ∀ x, (f x).kept = x.kept) :
    (s.modTube t f).kept = s.kept := State.kept_setTube s (h _)

@[simp] theorem State.kept_setMode (t : TubeId) (m : Mode) : (s.setMode t m).kept = s.kept :=
  State.kept_modTube s fun _ => rfl

@[simp] theorem State.kept_setStep (t : TubeId) (st : Option ActiveStep) : (s.setStep t st).kept = s.kept :=
  State.kept_modTube s fun _ => rfl

@[simp] theorem State.kept_raise (t : TubeId) (e : Event) : (s.raise t e).kept = s.kept :=
  State.kept_modTube s fun x => by split <;> rfl

@[simp] theorem State.kept_recordFault (t : TubeId) (r : FaultRecord) : (s.recordFault t r).kept = s.kept :=
  State.kept_modTube s fun _ => rfl

@[simp] theorem State.kept_setMark (m : MarkId) (x : Mark) : (s.setMark m x).kept = s.kept := rfl
@[simp] theorem State.kept_push (js : List Job) : (s.push js).kept = s.kept := rfl
@[simp] theorem State.kept_raiseBank (e : BankEvent) : (s.raiseBank e).kept = s.kept := rfl
@[simp] theorem State.kept_recordError (e : BankError) : (s.recordError e).kept = s.kept := rfl
@[simp] theorem State.kept_setQueue (q : List GasEntry) : (s.setQueue q).kept = s.kept := rfl
@[simp] theorem State.kept_drawn {α : Type} (l : List α) : (s.drawn l).kept = s.kept := rfl
@[simp] theorem State.kept_drewTubes (c : TubeId → Bool) : (s.drewTubes c).kept = s.kept := rfl
@[simp] theorem State.kept_jobs (js : List Job) : ({ s with jobs := js } : State).kept = s.kept := rfl
@[simp] theorem State.kept_marks (ms : PerMark Mark) : ({ s with marks := ms } : State).kept = s.kept := rfl

theorem State.kept_ite {c : Prop} [Decidable c] {a b : State} (ha : a.kept = s.kept) (hb : b.kept = s.kept) :
    (if c then a else b).kept = s.kept := by
  split
  · exact ha
  · exact hb

theorem State.kept_foldl {α : Type} (f : State → α → State) (h : ∀ u a, (f u a).kept = u.kept) (l : List α) :
    ∀ u : State, (l.foldl f u).kept = u.kept := by
  induction l with
  | nil => intro u; rfl
  | cons a l ih => intro u; rw [List.foldl_cons, ih, h]

/-! ### Note-pending flags -/

theorem State.kept_setPort {p : Port} {e : PortEngine} (h : e.quiet = (s.port p).quiet) :
    (s.setPort p e).kept = s.kept := by
  rcases p with t | _
  · have : (PerTube.of fun u => ((s.ports.station.set t e).get u).quiet) =
        PerTube.of fun u => (s.ports.station.get u).quiet := by
      apply PerTube.ext_get
      intro u
      rw [PerTube.get_of, PerTube.get_of, PerTube.get_set]
      split
      · rename_i hu; rw [hu]; exact h
      · rfl
    unfold State.kept State.setPort
    simp only [this]
  · have h' : e.quiet = s.ports.facility.quiet := h
    unfold State.kept State.setPort
    simp only [h']

@[simp] theorem State.kept_demandNote (p : Port) : (s.demandNote p).kept = s.kept := State.kept_setPort s rfl

@[simp] theorem State.kept_notePort (old : State) (p : Port) : (State.notePort old s p).kept = s.kept := by
  unfold State.notePort
  split
  · rfl
  · exact State.kept_setPort s rfl

@[simp] theorem State.kept_noteBank (old : State) : (s.noteBank old).kept = s.kept := State.kept_notePort s old .facility

theorem State.kept_modTubeNoted {t : TubeId} {f : Tube → Tube} (h : ∀ x, (f x).kept = x.kept) :
    (s.modTubeNoted t f).kept = s.kept := by
  unfold State.modTubeNoted
  rw [State.kept_notePort, State.kept_modTube s h]

/-! ### The Condition Monitor -/

theorem State.kept_setProof {p : ProofId} {x : Proof} (h : x.kept = (s.proof p).kept) :
    (s.setProof p x).kept = s.kept := by
  rcases p with ⟨t, k⟩ | k
  · cases k <;>
    · refine State.kept_setTube s ?_
      simp only [Tube.kept]
      rw [h]
      rfl
  · cases k <;>
    · unfold State.kept State.setProof
      simp only
      rw [h]
      rfl

@[simp] theorem State.kept_prove (p : ProofId) : (s.prove p).kept = s.kept := by
  unfold State.prove
  rw [State.kept_push]
  exact State.kept_setProof s rfl

theorem State.kept_takeRaw (p : ProofId) (raw : Bool) (flip : State → State) (h : ∀ u, (flip u).kept = u.kept) :
    (s.takeRaw p raw flip).kept = s.kept := by
  unfold State.takeRaw
  have h1 : ∀ c, (s.setProof p { s.proof p with raw := raw, count := c }).kept = s.kept := fun c =>
    State.kept_setProof s rfl
  simp only
  split
  · rw [h, h1]
  · rw [h1]

@[simp] theorem State.kept_deriveFlow (t : TubeId) : (s.deriveFlow t).kept = s.kept :=
  State.kept_takeRaw s _ _ _ fun _ => State.kept_prove _ _

@[simp] theorem State.kept_endFlowHold (t : TubeId) : (s.endFlowHold t).kept = s.kept := by
  unfold State.endFlowHold
  simp only
  split
  · rw [State.kept_prove, State.kept_setProof, State.kept_modTube]
    · intro _; rfl
    · rfl
  · rw [State.kept_setProof, State.kept_modTube]
    · intro _; rfl
    · rfl

@[simp] theorem State.kept_startFlowHold (t : TubeId) : (s.startFlowHold t).kept = s.kept := by
  unfold State.startFlowHold
  split
  · split <;> simp
  · rw [State.kept_deriveFlow, State.kept_modTube]
    intro _; rfl

@[simp] theorem State.kept_watchSent (t : TubeId) (old : PerLine Nat) : (s.watchSent t old).kept = s.kept := by
  unfold State.watchSent
  split <;> simp

@[simp] theorem State.kept_proveEdge (p : ProofId) : (s.proveEdge p).kept = s.kept := by
  rcases p with ⟨t, k⟩ | k
  · cases k <;> simp [State.proveEdge]
  · cases k <;> simp [State.proveEdge]

@[simp] theorem State.kept_derive (p : ProofId) : (s.derive p).kept = s.kept :=
  State.kept_takeRaw s _ _ _ fun _ => State.kept_proveEdge _ _

@[simp] theorem State.kept_noteGas (t : TubeId) (g : TubeGas) : (s.noteGas t g).kept = s.kept := by
  unfold State.noteGas
  rw [State.kept_noteBank, State.kept_modTube]
  intro _; rfl

@[simp] theorem State.kept_setGas (t : TubeId) (g : TubeGas) : (s.setGas t g).kept = s.kept := by
  unfold State.setGas
  rw [State.kept_watchSent, State.kept_noteGas]

@[simp] theorem State.kept_deriveAll (ps : List ProofId) : (s.deriveAll ps).kept = s.kept := by
  unfold State.deriveAll
  simp only
  rw [State.kept_foldl _ fun _ _ => State.kept_derive _ _, State.kept_drawn,
    State.kept_foldl _ fun _ _ => State.kept_derive _ _]

@[simp] theorem State.kept_countStep (p : ProofId) : (s.countStep p).kept = s.kept := by
  have h : ∀ (q : ProofId), (if (s.proof q).raw = (s.proof q).proven then s
      else if (s.proof q).debounce ≤ (s.proof q).count + 1 then s.proveEdge q
      else s.setProof q { s.proof q with count := (s.proof q).count + 1 }).kept = s.kept := by
    intro q
    split
    · rfl
    · split
      · simp
      · exact State.kept_setProof s rfl
  unfold State.countStep
  simp only
  split
  · split
    · simp
    · exact State.kept_modTube s fun _ => rfl
  · exact h _

@[simp] theorem State.kept_monitorStep : s.monitorStep.kept = s.kept := by
  unfold State.monitorStep
  simp only
  rw [State.kept_foldl _ fun _ _ => State.kept_countStep _ _, State.kept_drawn,
    State.kept_foldl _ fun _ _ => State.kept_countStep _ _]

/-! ### The Gas Allocator -/

@[simp] theorem State.kept_dropGasEntry (t : TubeId) : (s.dropGasEntry t).kept = s.kept := rfl

@[simp] theorem State.kept_grantGas (t : TubeId) (flows : PerLine Nat) : (s.grantGas t flows).kept = s.kept := by
  simp [State.grantGas]

@[simp] theorem State.kept_fifoPass (q : List GasEntry) : ∀ u : State, (State.fifoPass q u).kept = u.kept := by
  induction q with
  | nil => intro u; rfl
  | cons e q ih =>
    intro u
    unfold State.fifoPass
    split
    · exact ih u
    · split
      · rw [ih, State.kept_grantGas]
      · rfl

@[simp] theorem State.kept_fitFirstPass (q : List GasEntry) :
    ∀ u : State, (State.fitFirstPass q u).kept = u.kept := by
  induction q with
  | nil => intro u; rfl
  | cons e q ih =>
    intro u
    unfold State.fitFirstPass
    split
    · rw [ih, State.kept_grantGas]
    · exact ih u

@[simp] theorem State.kept_gasPass : s.gasPass.kept = s.kept := by
  unfold State.gasPass
  simp only
  split <;> simp

@[simp] theorem State.kept_enqueueGas (e : GasEntry) : (s.enqueueGas e).kept = s.kept := by
  unfold State.enqueueGas
  split <;> simp

@[simp] theorem State.kept_gasOutcome (t : TubeId) : (s.gasOutcome t).kept = s.kept := by
  unfold State.gasOutcome
  split <;> simp

@[simp] theorem State.kept_gasRequest (t : TubeId) (flows : PerLine Nat) : (s.gasRequest t flows).kept = s.kept := by
  unfold State.gasRequest
  split
  · rfl
  · simp only
    split <;> simp

@[simp] theorem State.kept_withdrawGas (t : TubeId) : (s.withdrawGas t).kept = s.kept := by
  unfold State.withdrawGas
  split <;> simp

@[simp] theorem State.kept_standbyRequest (t : TubeId) : (s.standbyRequest t).kept = s.kept := by
  simp [State.standbyRequest]

@[simp] theorem State.kept_idleRequest (t : TubeId) : (s.idleRequest t).kept = s.kept := by
  simp [State.idleRequest]

@[simp] theorem State.kept_releaseGas (t : TubeId) : (s.releaseGas t).kept = s.kept := by
  simp [State.releaseGas]

@[simp] theorem State.kept_grantEmergency (t : TubeId) : (s.grantEmergency t).kept = s.kept := by
  unfold State.grantEmergency
  simp only
  split <;> simp

@[simp] theorem State.kept_judgeProving : s.judgeProving.kept = s.kept := rfl

/-! ### The Power Allocator -/

theorem State.kept_modPower {f : PowerAllocator → PowerAllocator} (h : ∀ p, (f p).kept = p.kept) :
    (s.modPower f).kept = s.kept := by
  unfold State.modPower
  rw [State.kept_noteBank]
  unfold State.kept
  simp only
  rw [h]

@[simp] theorem State.kept_revoke (g : RampGrant) : (s.revoke g).kept = s.kept := by
  unfold State.revoke
  rw [State.kept_raiseBank, State.kept_raise, State.kept_modPower]
  intro _; rfl

@[simp] theorem State.kept_revokeFrom (all : Bool) (gs : List RampGrant) :
    ∀ u : State, (State.revokeFrom all gs u).kept = u.kept := by
  induction gs with
  | nil => intro u; rfl
  | cons g gs ih =>
    intro u
    unfold State.revokeFrom
    split
    · rw [ih, State.kept_revoke]
    · rfl

@[simp] theorem State.kept_retuneThrottle : s.retuneThrottle.kept = s.kept := by
  have h : (s.modPower fun p => { p with throttle := s.throttleNow }).kept = s.kept :=
    State.kept_modPower s fun _ => rfl
  unfold State.retuneThrottle
  simp only
  split
  · rw [State.kept_raiseBank, h]
  · split
    · rw [State.kept_raiseBank, h]
    · exact h

@[simp] theorem State.kept_recomputeCeilings : s.recomputeCeilings.kept = s.kept :=
  State.kept_modPower s fun _ => rfl

@[simp] theorem State.kept_grantRamp (r : RampRequest) : (s.grantRamp r).kept = s.kept :=
  State.kept_modPower s fun _ => rfl

@[simp] theorem State.kept_rampPassFrom (ts : List TubeId) :
    ∀ u : State, (State.rampPassFrom ts u).kept = u.kept := by
  induction ts with
  | nil => intro u; rfl
  | cons t ts ih =>
    intro u
    unfold State.rampPassFrom
    split
    · exact ih u
    · split
      · exact ih u
      · split
        · rw [ih, State.kept_grantRamp]
        · rfl

@[simp] theorem State.kept_rampPass : s.rampPass.kept = s.kept := by
  unfold State.rampPass
  rw [State.kept_rampPassFrom]
  exact State.kept_modPower s fun _ => rfl

@[simp] theorem State.kept_raiseWaiting : s.raiseWaiting.kept = s.kept :=
  State.kept_foldl (fun u (r : RampRequest) => u.raise r.tube .rampWait) (fun _ _ => State.kept_raise _ _ _) _ _

@[simp] theorem State.kept_powerSequence (fell pass : Bool) : (s.powerSequence fell pass).kept = s.kept := by
  unfold State.powerSequence
  simp only
  split <;> simp

@[simp] theorem State.kept_powerInput : s.powerInput.kept = s.kept := State.kept_powerSequence _ _ _

@[simp] theorem State.kept_rampRequest (t : TubeId) (amount : Nat) : (s.rampRequest t amount).kept = s.kept := by
  have h : (s.modPower fun p => { p with
      requests := p.requests ++ [{ tube := t, amount := amount, oversize := false }] }).kept = s.kept :=
    State.kept_modPower s fun _ => rfl
  unfold State.rampRequest
  rw [State.kept_powerInput, h]

@[simp] theorem State.kept_rampRelease (t : TubeId) : (s.rampRelease t).kept = s.kept := by
  unfold State.rampRelease
  split
  · rw [State.kept_powerInput]
    exact State.kept_modPower s fun _ => rfl
  · rfl

/-! ### The sequencer -/

@[simp] theorem State.kept_positionTake (t : TubeId) : (s.positionTake t).kept = s.kept := by
  unfold State.positionTake
  split
  · rfl
  · exact State.kept_modTube s fun _ => rfl

@[simp] theorem State.kept_leaveMarks (t : TubeId) : (s.leaveMarks t).kept = s.kept := rfl

@[simp] theorem State.kept_loadIdle (t : TubeId) : (s.loadIdle t).kept = s.kept := by simp [State.loadIdle]

@[simp] theorem State.kept_enterAborting (t : TubeId) : (s.enterAborting t).kept = s.kept := by
  simp [State.enterAborting]

@[simp] theorem State.kept_stepFault (t : TubeId) (k : Kind) : (s.stepFault t k).kept = s.kept := by
  unfold State.stepFault
  split
  · simp only
    split <;> simp
  · rfl

@[simp] theorem State.kept_trip (k : Kind) (t : TubeId) : (State.trip k s t).kept = s.kept := by
  unfold State.trip
  split
  · simp
  · rfl

@[simp] theorem State.kept_tripAll (k : Kind) : (s.tripAll k).kept = s.kept := by
  unfold State.tripAll
  simp only
  rw [State.kept_foldl _ fun _ _ => State.kept_trip _ _ _, State.kept_drewTubes]

@[simp] theorem State.kept_setLatch (k : Kind) : (s.setLatch k).kept = s.kept := by
  unfold State.setLatch
  rw [State.kept_tripAll]
  rfl

@[simp] theorem State.kept_wakeTube (t : TubeId) : (s.wakeTube t).kept = s.kept := by simp [State.wakeTube]

@[simp] theorem State.kept_enterIdlePurge (t : TubeId) : (s.enterIdlePurge t).kept = s.kept := by
  unfold State.enterIdlePurge
  rw [State.kept_modTube]
  · simp
  · intro _; rfl

@[simp] theorem State.kept_takeActivity (t : TubeId) (kinds : BitVec 4) :
    (s.takeActivity t kinds).kept = s.kept := by
  unfold State.takeActivity
  simp only
  split
  · split <;> simp
  · split <;> simp
  · rfl

@[simp] theorem State.kept_loadFailed (t : TubeId) (i field : Nat) : (s.loadFailed t i field).kept = s.kept := by
  simp [State.loadFailed]

@[simp] theorem State.kept_load (t : TubeId) (i : Nat) (held : Option HoldReason) :
    (s.load t i held).kept = s.kept := by
  unfold State.load
  simp only
  split
  · simp
  · simp
  · simp
  · split <;> simp

@[simp] theorem State.kept_takeMark (t : TubeId) (m : MarkId) (consume : Bool) :
    (s.takeMark t m consume).kept = s.kept := by simp [State.takeMark]

@[simp] theorem State.kept_judgeSync (t : TubeId) : (s.judgeSync t).kept = s.kept := by
  unfold State.judgeSync
  split
  · rfl
  · split
    · rfl
    · simp only
      split
      · simp
      · split <;> simp

@[simp] theorem State.kept_startRamp (t : TubeId) (st : ActiveStep) : (s.startRamp t st).kept = s.kept := by
  unfold State.startRamp
  simp only
  split
  · rfl
  · split
    · simp
    · split <;> simp

@[simp] theorem State.kept_startMotion (t : TubeId) (a : Action) (st : ActiveStep) :
    (s.startMotion t a st).kept = s.kept := by
  unfold State.startMotion
  simp only
  split
  · simp
  · split <;> split <;> simp

@[simp] theorem State.kept_enterExecute (t : TubeId) : (s.enterExecute t).kept = s.kept := by
  unfold State.enterExecute
  simp only
  split <;> simp

@[simp] theorem State.kept_judgeProve (t : TubeId) : (s.judgeProve t).kept = s.kept := by
  unfold State.judgeProve
  split <;> simp

@[simp] theorem State.kept_enterProve (t : TubeId) : (s.enterProve t).kept = s.kept := by
  unfold State.enterProve
  split <;> simp

@[simp] theorem State.kept_beginStep (t : TubeId) : (s.beginStep t).kept = s.kept := by
  unfold State.beginStep
  split
  · rename_i st _ _
    have h : (if recOffsetsMark st.record = 1 ∧ recAction st.record ≠ some .endRun then
        (s.setMode t (.running .acquire)).modTube t fun x => { x with offsets := recOffsets st.record }
      else s.setMode t (.running .acquire)).kept = s.kept := by
      split
      · rw [State.kept_modTube]
        · simp
        · intro _; rfl
      · simp
    simp only
    split
    · rw [State.kept_gasRequest, h]
    · rw [State.kept_enterProve, h]
  · rfl

@[simp] theorem State.kept_gasGranted (t : TubeId) : (s.gasGranted t).kept = s.kept := by
  unfold State.gasGranted
  split <;> simp

@[simp] theorem State.kept_completeStep (t : TubeId) (held : Option HoldReason) :
    (s.completeStep t held).kept = s.kept := by
  unfold State.completeStep
  split
  · simp only
    split <;> simp
  · rfl

@[simp] theorem State.kept_endRun (t : TubeId) : (s.endRun t).kept = s.kept := by
  unfold State.endRun
  simp only [State.kept_loadIdle, State.kept_standbyRequest, State.kept_gasRequest]
  rw [State.kept_modTube]
  · simp
  · intro _; rfl

@[simp] theorem State.kept_takeLoop (t : TubeId) (st : ActiveStep) : (s.takeLoop t st).kept = s.kept := by
  unfold State.takeLoop
  rw [State.kept_modTube, State.kept_modTubeNoted]
  · intro _; rfl
  · intro _; rfl

@[simp] theorem State.kept_finishStep (t : TubeId) (held : Option HoldReason) :
    (s.finishStep t held).kept = s.kept := by
  unfold State.finishStep
  split
  · rename_i st _ _
    have h : (if recNotify st.record = 1 then s.raise t .stepDone else s).kept = s.kept := by
      split <;> simp
    simp only
    split
    · rfl
    · split
      · rw [State.kept_endRun, h]
      · split
        · rw [State.kept_load, State.kept_takeLoop, h]
        · rw [State.kept_load, h]
  · rfl

@[simp] theorem State.kept_setMarkBy (m : MarkId) (t : TubeId) : (s.setMarkBy m t).kept = s.kept := rfl

@[simp] theorem State.kept_raiseEdge (p : ProofId) (rising : Bool) (t : TubeId) :
    (State.raiseEdge p rising s t).kept = s.kept := by
  unfold State.raiseEdge
  split <;> split <;> simp

@[simp] theorem State.kept_tubeInterlock (t : TubeId) (k : TubeProof) (rising : Bool) :
    (s.tubeInterlock t k rising).kept = s.kept := by
  unfold State.tubeInterlock
  split
  · simp
  · simp
  · simp
  · split <;> simp
  · rfl

@[simp] theorem State.kept_takeEdge (p : ProofId) (rising : Bool) : (s.takeEdge p rising).kept = s.kept := by
  unfold State.takeEdge
  split
  · simp
  · have h : ∀ k : BankProof, ((TubeId.all.filter fun t => (s.tube t).mode.inService).foldl
        (State.raiseEdge (.bank k) rising) s).kept = s.kept :=
      fun k => State.kept_foldl _ (fun _ _ => State.kept_raiseEdge _ _ _ _) _ _
    simp only
    split
    · rw [State.kept_setLatch, State.kept_raiseBank, h]
    · rw [h]
    · rw [State.kept_powerSequence, State.kept_raiseBank, h]
    · rw [State.kept_powerInput, h]

@[simp] theorem State.kept_doJob (j : Job) : (s.doJob j).kept = s.kept := by cases j <;> simp [State.doJob]

/-! ### The running of acts -/

@[simp] theorem State.kept_noteWatch (old : State) : (s.noteWatch old).kept = s.kept :=
  State.kept_foldl _ (fun u p => State.kept_notePort u old p) _ _

@[simp] theorem State.kept_runJob (j : Job) (rest : List Job) : (s.runJob j rest).kept = s.kept := by
  unfold State.runJob
  simp

@[simp] theorem State.kept_runJobs (n : Nat) : ∀ u : State, (State.runJobs n u).kept = u.kept := by
  induction n with
  | zero => intro u; rfl
  | succ n ih =>
    intro u
    unfold State.runJobs
    split
    · rfl
    · rw [ih, State.kept_runJob]

@[simp] theorem State.kept_settle : s.settle.kept = s.kept := State.kept_runJobs _ _

/-- The acts that follow on an operation change nothing of what `kept` keeps: the operation alone decides it. -/
@[simp] theorem State.kept_act (f : State → State) : (s.act f).kept = (f s).kept := by
  unfold State.act
  rw [State.kept_settle, State.kept_noteWatch]

/-! ### What `kept` says, part by part -/

section
variable {s} {u : State} (h : u.kept = s.kept)
include h

theorem State.profile_of_kept : u.profile = s.profile := by simpa [State.kept] using congrArg State.profile h
theorem State.b0_of_kept : u.b0 = s.b0 := by simpa [State.kept] using congrArg State.b0 h
theorem State.b1_of_kept : u.b1 = s.b1 := by simpa [State.kept] using congrArg State.b1 h
theorem State.b2_of_kept : u.b2 = s.b2 := by simpa [State.kept] using congrArg State.b2 h
theorem State.pending_of_kept : u.pending = s.pending := by simpa [State.kept] using congrArg State.pending h
theorem State.link_of_kept : u.link = s.link := by simpa [State.kept] using congrArg State.link h
theorem State.bank_of_kept : u.bank = s.bank := by simpa [State.kept] using congrArg State.bank h
theorem State.capacity_of_kept : u.gas.capacity = s.gas.capacity := by
  simpa [State.kept] using congrArg (fun x => x.gas.capacity) h
theorem State.reserve_of_kept : u.gas.reserve = s.gas.reserve := by
  simpa [State.kept] using congrArg (fun x => x.gas.reserve) h
theorem State.emergencyFlow_of_kept : u.gas.emergencyFlow = s.gas.emergencyFlow := by
  simpa [State.kept] using congrArg (fun x => x.gas.emergencyFlow) h
theorem State.policy_of_kept : u.gas.policy = s.gas.policy := by
  simpa [State.kept] using congrArg (fun x => x.gas.policy) h
theorem State.budget_of_kept : u.power.budget = s.power.budget := by
  simpa [State.kept, PowerAllocator.kept] using congrArg (fun x => x.power.budget) h
theorem State.holdReserve_of_kept : u.power.holdReserve = s.power.holdReserve := by
  simpa [State.kept, PowerAllocator.kept] using congrArg (fun x => x.power.holdReserve) h
theorem State.order_of_kept : u.power.order = s.power.order := by
  simpa [State.kept, PowerAllocator.kept] using congrArg (fun x => x.power.order) h
theorem State.priority_of_kept : u.power.priority = s.power.priority := by
  simpa [State.kept, PowerAllocator.kept] using congrArg (fun x => x.power.priority) h
theorem State.cmax_of_kept : u.power.cmax = s.power.cmax := by
  simpa [State.kept, PowerAllocator.kept] using congrArg (fun x => x.power.cmax) h
theorem State.hold_of_kept : u.monitor.hold = s.monitor.hold := by
  simpa [State.kept] using congrArg (fun x => x.monitor.hold) h
theorem State.coolingThreshold_of_kept : u.monitor.coolingThreshold = s.monitor.coolingThreshold := by
  simpa [State.kept] using congrArg (fun x => x.monitor.coolingThreshold) h
theorem State.tolPct_of_kept : u.monitor.tolPct = s.monitor.tolPct := by
  simpa [State.kept] using congrArg (fun x => x.monitor.tolPct) h
theorem State.tolMin_of_kept : u.monitor.tolMin = s.monitor.tolMin := by
  simpa [State.kept] using congrArg (fun x => x.monitor.tolMin) h
theorem State.flowSettleTime_of_kept : u.monitor.flowSettleTime = s.monitor.flowSettleTime := by
  simpa [State.kept] using congrArg (fun x => x.monitor.flowSettleTime) h

theorem State.tubeKept_of_kept (t : TubeId) : (u.tube t).kept = (s.tube t).kept := by
  have := congrArg (fun x => x.tubes.get t) h
  simpa [State.kept, State.tube] using this

theorem State.settings_of_kept (t : TubeId) : (u.tube t).settings = (s.tube t).settings := by
  simpa [Tube.kept] using congrArg Tube.settings (State.tubeKept_of_kept h t)

theorem State.proofKept_of_kept (p : ProofId) : (u.proof p).kept = (s.proof p).kept := by
  rcases p with ⟨t, k⟩ | k
  · have ht := State.tubeKept_of_kept h t
    cases k
    · simpa [Tube.kept, State.proof] using congrArg Tube.exhProof ht
    · simpa [Tube.kept, State.proof] using congrArg Tube.sealProof ht
    · simpa [Tube.kept, State.proof] using congrArg Tube.otcProof ht
    · simpa [Tube.kept, State.proof] using congrArg Tube.flowProof ht
  · cases k
    · simpa [State.kept, State.proof] using congrArg (fun x => x.monitor.estopProof) h
    · simpa [State.kept, State.proof] using congrArg (fun x => x.monitor.coolingProof) h

theorem State.portQuiet_of_kept (p : Port) : (u.port p).quiet = (s.port p).quiet := by
  rcases p with t | _
  · have := congrArg (fun x => x.ports.station.get t) h
    simpa [State.kept, State.port] using this
  · have := congrArg (fun x => x.ports.facility) h
    simpa [State.kept, State.port] using this
end

end Sys2Proof.Machine
end

