-- ==== Sys2Proof/Laws/Memory.lean ====
section
/-!
SUPPORT. The Profile Memory: what a byte and a record read as after a write, and that every write keeps the canonical form
(R1, R5).
-/

namespace Sys2Proof.Machine

open Sys2Proof

/-! ### One byte -/

theorem memRead_of_lt_all {m : List Host.Cell} {lo a : Nat} (h : memWfFrom lo m = true) (ha : a < lo) :
    memRead m a = cellDefault a := by
  induction m generalizing lo with
  | nil => rfl
  | cons c rest ih =>
    simp only [memWfFrom, Bool.and_eq_true, decide_eq_true_eq] at h
    have : c.1 ≠ a := by omega
    simp only [memRead, this, if_false]
    exact ih h.2 (by omega)

theorem memWfFrom_mono {m : List Host.Cell} {lo hi : Nat} (h : memWfFrom hi m = true) (hl : lo ≤ hi) :
    memWfFrom lo m = true := by
  cases m with
  | nil => rfl
  | cons c rest =>
    simp only [memWfFrom, Bool.and_eq_true, decide_eq_true_eq] at h ⊢
    exact ⟨⟨by omega, h.1.2⟩, h.2⟩

theorem memWfFrom_memWrite {m : List Host.Cell} {lo a : Nat} {b : Byte} (h : memWfFrom lo m = true) (ha : lo ≤ a) :
    memWfFrom lo (memWrite m a b) = true := by
  induction m generalizing lo with
  | nil =>
    unfold memWrite
    split
    · rfl
    · rename_i hb
      simp [memWfFrom, ha, hb]
  | cons c rest ih =>
    have hw := h
    simp only [memWfFrom, Bool.and_eq_true, decide_eq_true_eq] at h
    unfold memWrite
    split
    · rename_i hlt
      split
      · exact hw
      · rename_i hb
        simp only [memWfFrom, Bool.and_eq_true, decide_eq_true_eq]
        exact ⟨⟨ha, hb⟩, ⟨⟨by omega, h.1.2⟩, h.2⟩⟩
    · split
      · rename_i he
        split
        · exact memWfFrom_mono h.2 (by omega)
        · rename_i hb
          simp only [memWfFrom, Bool.and_eq_true, decide_eq_true_eq]
          exact ⟨⟨ha, hb⟩, by rw [he]; exact h.2⟩
      · simp only [memWfFrom, Bool.and_eq_true, decide_eq_true_eq]
        exact ⟨h.1, ih h.2 (by omega)⟩

/-- A write keeps the canonical form. -/
theorem memWf_memWrite {m : List Host.Cell} {a : Nat} {b : Byte} (h : memWf m = true) : memWf (memWrite m a b) = true :=
  memWfFrom_memWrite h (Nat.zero_le a)

theorem memRead_memWrite_from {m : List Host.Cell} {lo : Nat} (a x : Nat) (b : Byte) (h : memWfFrom lo m = true) :
    memRead (memWrite m a b) x = if x = a then b else memRead m x := by
  induction m generalizing lo with
  | nil =>
    unfold memWrite
    split
    · rename_i hb
      split
      · rename_i hx
        simp [memRead, hx, hb]
      · rfl
    · by_cases hx : x = a
      · simp [memRead, hx]
      · have : ¬a = x := fun e => hx e.symm
        simp [memRead, hx, this]
  | cons c rest ih =>
    simp only [memWfFrom, Bool.and_eq_true, decide_eq_true_eq] at h
    unfold memWrite
    by_cases h1 : a < c.1
    · simp only [h1, if_true]
      by_cases hb : b = cellDefault a
      · simp only [hb, if_true]
        by_cases hx : x = a
        · have : ¬c.1 = a := by omega
          simp only [hx, if_true, memRead, this, if_false]
          exact memRead_of_lt_all h.2 (by omega)
        · simp [hx]
      · by_cases hx : x = a
        · simp [hb, memRead, hx]
        · have : ¬a = x := fun e => hx e.symm
          simp [hb, memRead, hx, this]
    · simp only [h1, if_false]
      by_cases h2 : a = c.1
      · simp only [h2, if_true]
        by_cases hb : b = cellDefault c.1
        · simp only [hb, if_true]
          by_cases hx : x = c.1
          · simp only [hx, if_true]
            exact memRead_of_lt_all h.2 (by omega)
          · have : ¬c.1 = x := fun e => hx e.symm
            simp [memRead, hx, this]
        · by_cases hx : x = c.1
          · simp [hb, memRead, hx]
          · have : ¬c.1 = x := fun e => hx e.symm
            simp [hb, memRead, hx, this]
      · simp only [h2, if_false, memRead]
        by_cases hc : c.1 = x
        · have : ¬x = a := by omega
          simp [hc, this]
        · simp only [hc, if_false]
          exact ih h.2

/-- A read after a write: the byte written at its address, every other address as before. -/
theorem memRead_memWrite {m : List Host.Cell} (a x : Nat) (b : Byte) (h : memWf m = true) :
    memRead (memWrite m a b) x = if x = a then b else memRead m x := memRead_memWrite_from a x b h

/-! ### Bytes in a row -/

/-- Writing bytes in a row keeps the canonical form. -/
theorem memWf_memWriteAll {m : List Host.Cell} {a : Nat} {bs : List Byte} (h : memWf m = true) :
    memWf (memWriteAll m a bs) = true := by
  induction bs generalizing m a with
  | nil => exact h
  | cons b rest ih => exact ih (memWf_memWrite h)

/-- A read after a write of bytes in a row: the byte written inside them, every other address as before. -/
theorem memRead_memWriteAll {m : List Host.Cell} {bs : List Byte} (a x : Nat) (h : memWf m = true) :
    memRead (memWriteAll m a bs) x =
      if a ≤ x ∧ x < a + bs.length then bs.getD (x - a) 0 else memRead m x := by
  induction bs generalizing m a with
  | nil =>
    have : ¬(a ≤ x ∧ x < a + ([] : List Byte).length) := by simp
    rw [if_neg this]; rfl
  | cons b rest ih =>
    simp only [memWriteAll, ih (a + 1) (memWf_memWrite h), memRead_memWrite a x b h, List.length_cons]
    by_cases hx : x = a
    · subst hx
      rw [if_neg (by omega), if_pos rfl, if_pos ⟨Nat.le_refl _, by omega⟩, Nat.sub_self]
      rfl
    · by_cases hin : a + 1 ≤ x ∧ x < a + 1 + rest.length
      · have h2 : a ≤ x ∧ x < a + (rest.length + 1) := by omega
        have h3 : x - a = (x - (a + 1)) + 1 := by omega
        rw [if_pos hin, if_pos h2, h3, List.getD_cons_succ]
      · have h2 : ¬(a ≤ x ∧ x < a + (rest.length + 1)) := by omega
        rw [if_neg hin, if_neg h2, if_neg hx]

theorem memReadAll_congr {m n : List Host.Cell} {k : Nat} (a : Nat)
    (h : ∀ x, a ≤ x → x < a + k → memRead m x = memRead n x) : memReadAll m a k = memReadAll n a k := by
  induction k generalizing a with
  | zero => rfl
  | succ k ih =>
    simp only [memReadAll]
    rw [h a (Nat.le_refl a) (by omega), ih (a + 1) fun x hx hy => h x (by omega) (by omega)]

theorem memReadAll_memWriteAll {m : List Host.Cell} {bs : List Byte} (a : Nat) (h : memWf m = true) :
    memReadAll (memWriteAll m a bs) a bs.length = bs := by
  induction bs generalizing m a with
  | nil => rfl
  | cons b rest ih =>
    simp only [List.length_cons, memReadAll, memWriteAll]
    rw [ih (a + 1) (memWf_memWrite h), memRead_memWriteAll (a + 1) a (memWf_memWrite h), memRead_memWrite a a b h]
    rw [if_neg (by omega), if_pos rfl]

/-! ### Records -/

/-- WRITE_STEP's operation keeps the canonical form. -/
theorem memWf_writeRecord {s : State} {i : Nat} {r : List Byte} (h : memWf s.profile = true) :
    memWf (s.writeRecord i r).profile = true := memWf_memWriteAll h

/-- The record written is read back (R1). -/
theorem readRecord_writeRecord_self {s : State} {i : Nat} {r : List Byte} (h : memWf s.profile = true)
    (hr : r.length = Config.recordBytes) : (s.writeRecord i r).readRecord i = r := by
  unfold State.readRecord State.writeRecord
  rw [← hr]
  exact memReadAll_memWriteAll _ h

/-- Every other record stays as it was (R1). -/
theorem readRecord_writeRecord_of_ne {s : State} {i j : Nat} {r : List Byte} (h : memWf s.profile = true)
    (hr : r.length = Config.recordBytes) (hj : j ≠ i) : (s.writeRecord i r).readRecord j = s.readRecord j := by
  unfold State.readRecord State.writeRecord
  apply memReadAll_congr
  intro x hx hy
  rw [memRead_memWriteAll _ x h, if_neg]
  intro ⟨h1, h2⟩
  rw [hr] at h2
  simp only [Config.recordBytes] at *
  omega

/-- The memory after reset is in its canonical form. -/
theorem memWf_reset : memWf State.reset.profile = true := rfl

/-- Every record reads as the power-on END record while nothing has been written (R5). -/
theorem readRecord_of_empty {s : State} (h : s.profile = []) (i : Nat) : s.readRecord i = powerOnRecord := by
  have hd : ∀ k, k < Config.recordBytes → cellDefault (Config.recordBytes * i + k) = if k = 0 then 7 else 0 := by
    intro k hk
    have : (Config.recordBytes * i + k) % Config.recordBytes = k := by
      rw [Nat.mul_add_mod]; exact Nat.mod_eq_of_lt hk
    simp [cellDefault, this]
  have hs : ∀ (n k : Nat), k + n = Config.recordBytes → 0 < k →
      memReadAll [] (Config.recordBytes * i + k) n = List.replicate n 0 := by
    intro n
    induction n with
    | zero => intro k _ _; rfl
    | succ n ih =>
      intro k hk h0
      have h1 := hd k (by omega)
      have h2 : ¬k = 0 := by omega
      simp only [h2, if_false] at h1
      simp only [memReadAll, memRead, List.replicate_succ]
      rw [h1, show Config.recordBytes * i + k + 1 = Config.recordBytes * i + (k + 1) by omega, ih (k + 1) (by omega) (by omega)]
  have h0 : cellDefault (Config.recordBytes * i) = 7 := hd 0 (by decide)
  unfold State.readRecord
  rw [h]
  show cellDefault (Config.recordBytes * i) :: memReadAll [] (Config.recordBytes * i + 1) 47 = powerOnRecord
  rw [h0, hs 47 1 rfl (by decide)]
  rfl

/-! ### Acts -/

/-- With no act to run nothing happens. -/
theorem settle_of_jobs_nil {s : State} (h : s.jobs = []) : s.settle = s := by
  unfold State.settle
  rw [show Config.jobFuel = 1048575 + 1 from rfl]
  simp only [State.runJobs, h]

end Sys2Proof.Machine
end

