-- ==== Sys2Proof/Laws/Acts.lean ====
section
/-!
SUPPORT. What the running of one step's acts comes to where no act follows, and what the note-pending flags change (R163, log entry
2).
-/

namespace Sys2Proof.Machine

open Sys2Proof

/-! ### Note-pending flags -/

theorem State.notePort_eq (old s : State) (p : Port) :
    State.notePort old s p = s ∨ ∃ e, e.quiet = (s.port p).quiet ∧ State.notePort old s p = s.setPort p e := by
  unfold State.notePort
  split
  · exact .inl rfl
  · exact .inr ⟨{ s.port p with notePending := true }, rfl, rfl⟩

/-- Setting a note-pending flag changes nothing but the ports. -/
theorem State.erasePorts_notePort (old s : State) (p : Port) : (State.notePort old s p).erasePorts = s.erasePorts := by
  unfold State.notePort
  split
  · rfl
  · cases p <;> rfl

theorem State.jobs_notePort (old s : State) (p : Port) : (State.notePort old s p).jobs = s.jobs := by
  unfold State.notePort
  split
  · rfl
  · cases p <;> rfl

/-- The note-pending flags change nothing but the ports. -/
@[simp] theorem State.erasePorts_noteWatch (s old : State) : (s.noteWatch old).erasePorts = s.erasePorts := by
  simp only [State.noteWatch, allPorts, List.foldl_cons, List.foldl_nil, State.erasePorts_notePort]

theorem State.jobs_erasePorts (s : State) : s.erasePorts.jobs = s.jobs := rfl

theorem State.tubes_erasePorts (s : State) : s.erasePorts.tubes = s.tubes := rfl

theorem State.gas_erasePorts (s : State) : s.erasePorts.gas = s.gas := rfl

theorem State.power_erasePorts (s : State) : s.erasePorts.power = s.power := rfl

theorem State.monitor_erasePorts (s : State) : s.erasePorts.monitor = s.monitor := rfl

theorem State.link_erasePorts (s : State) : s.erasePorts.link = s.link := rfl

theorem State.marks_erasePorts (s : State) : s.erasePorts.marks = s.marks := rfl

/-- The note-pending flags put no act. -/
@[simp] theorem State.jobs_noteWatch (s old : State) : (s.noteWatch old).jobs = s.jobs := by
  rw [← State.jobs_erasePorts (s.noteWatch old), State.erasePorts_noteWatch, State.jobs_erasePorts]

@[simp] theorem State.tubes_noteWatch (s old : State) : (s.noteWatch old).tubes = s.tubes := by
  rw [← State.tubes_erasePorts (s.noteWatch old), State.erasePorts_noteWatch, State.tubes_erasePorts]

@[simp] theorem State.gas_noteWatch (s old : State) : (s.noteWatch old).gas = s.gas := by
  rw [← State.gas_erasePorts (s.noteWatch old), State.erasePorts_noteWatch, State.gas_erasePorts]

@[simp] theorem State.power_noteWatch (s old : State) : (s.noteWatch old).power = s.power := by
  rw [← State.power_erasePorts (s.noteWatch old), State.erasePorts_noteWatch, State.power_erasePorts]

@[simp] theorem State.monitor_noteWatch (s old : State) : (s.noteWatch old).monitor = s.monitor := by
  rw [← State.monitor_erasePorts (s.noteWatch old), State.erasePorts_noteWatch, State.monitor_erasePorts]

@[simp] theorem State.link_noteWatch (s old : State) : (s.noteWatch old).link = s.link := by
  rw [← State.link_erasePorts (s.noteWatch old), State.erasePorts_noteWatch, State.link_erasePorts]

@[simp] theorem State.marks_noteWatch (s old : State) : (s.noteWatch old).marks = s.marks := by
  rw [← State.marks_erasePorts (s.noteWatch old), State.erasePorts_noteWatch, State.marks_erasePorts]

/-- Where no summary has changed no flag changes. -/
theorem State.noteWatch_of_summary {s old : State} (h : ∀ p, s.summary p = old.summary p) : s.noteWatch old = s := by
  simp only [State.noteWatch, allPorts, List.foldl_cons, List.foldl_nil, State.notePort, h, if_true]

/-! ### One step -/

/-- A step whose operation puts no act is the operation and the note-pending flags. -/
theorem State.act_of_jobs_nil {s : State} {f : State → State} (h : (f s).jobs = []) :
    s.act f = (f s).noteWatch s := by
  unfold State.act
  exact settle_of_jobs_nil (by simpa using h)

/-- A step whose operation puts no act and changes no summary is the operation. -/
theorem State.act_of_quiet {s : State} {f : State → State} (h : (f s).jobs = [])
    (hs : ∀ p, (f s).summary p = s.summary p) : s.act f = f s := by
  rw [State.act_of_jobs_nil h, State.noteWatch_of_summary hs]

/-- A step whose operation puts no act changes, ports apart, what the operation changes. -/
theorem State.erasePorts_act {s : State} {f : State → State} (h : (f s).jobs = []) :
    (s.act f).erasePorts = (f s).erasePorts := by
  rw [State.act_of_jobs_nil h, State.erasePorts_noteWatch]

/-- A wait for a counter that does not count leaves the state as it is (log entry 6). -/
theorem State.await_of_not_counting {s : State} {counting due : State → Bool} {tick fire : State → State} (n : Nat)
    (h : counting s = false) : State.await counting due tick fire n s = s := by
  cases n with
  | zero => rfl
  | succ n => simp [State.await, h]

/-- A wait whose counter ends on the next tick is that tick. -/
theorem State.await_of_due {s : State} {counting due : State → Bool} {tick fire : State → State} (n : Nat)
    (h : counting s = true) (hd : due s = true) : State.await counting due tick fire (n + 1) s = s.act fire := by
  simp [State.await, h, hd]

end Sys2Proof.Machine
end

