-- ==== Sys2Proof/Tests/Slice0.lean ====
section
/-!
SUPPORT. The model's own tests: an ill-formed command for each check of WellFormed, small steps against the worked tables of the
spec, and for every statement of Obligations.lean that has hypotheses a concrete state that meets them, clause by clause.
-/

namespace Sys2Proof.Tests

open Sys2Proof Sys2Proof.Machine

/-! ### Small states -/

/-- A record with these bytes at these offsets and 0 elsewhere. -/
def recordOf (bytes : List (Nat × Byte)) : List Byte :=
  bytes.foldl (fun r e => r.set e.1 e.2) (List.replicate 48 0)

/-- SOAK for 1 s, no band. -/
def soakRec : List Byte := recordOf [(0, 2), (38, 1)]

/-- RAMP to 0.5 °C at 60 units a minute with ramp_power 1. -/
def rampRec : List Byte := recordOf [(0, 1), (38, 5), (40, 60), (42, 1)]

/-- RAMP with band 1. -/
def bandRec : List Byte := recordOf [(0, 1), (38, 5), (40, 60), (42, 1), (44, 1)]

/-- PURGE of one pulse of 1 s at 100 sccm and 1 s at 0. -/
def purgeRec : List Byte := recordOf [(0, 3), (1, 1), (2, 1), (20, 0), (21, 100), (38, 1), (40, 1), (46, 2)]

/-- The same PURGE without a LOW phase. -/
def highRec : List Byte := recordOf [(0, 3), (1, 1), (2, 1), (20, 0), (21, 100), (38, 1), (46, 1)]

/-- PUSH to 10.0 mm at 60 mm/min, 30 mm/min from 9.0 mm on. -/
def pushRec : List Byte := recordOf [(0, 4), (38, 100), (40, 60), (42, 30), (44, 90)]

/-- SYNC on mark 0 with wait limit 1 s. -/
def syncRec : List Byte := recordOf [(0, 6), (40, 1)]

/-- A record that check 1 fails. -/
def badRec : List Byte := recordOf [(0, 9)]

/-- The state after reset with tube 0 changed. -/
def tube0 (f : Tube → Tube) : State := State.reset.modTube .t0 f

/-- Tube 0 in a mode with this record loaded from index 0. -/
def onRec (m : Mode) (r : List Byte) : State := tube0 fun x => { x with mode := m, step := some (freshStep 0 r none) }

/-- Tube 0 in a mode without a step. -/
def inMode (m : Mode) : State := tube0 fun x => { x with mode := m }

/-- The bank stop latch clear, the bank hold flag as given. -/
def released (s : State) (hold : Bool) : State := { s with monitor := { s.monitor with latch := false, hold := hold } }

/-- A loader reading of tube 0, fresh. -/
def withDrive (s : State) (actual : Nat) (ready : Bool) : State :=
  s.setLoader .t0 { reading := some { actual := actual, ready := ready },
                    status := { fresh := true, cause := .missed, misses := 0, pollDue := false, safeDue := false } }

/-- Every zone unit of tube 0 fresh at 0. -/
def withZones (s : State) : State :=
  let n : Node ZoneReading := { reading := some { temperature := 0, status := .ok },
                                status := { fresh := true, cause := .missed, misses := 0, pollDue := false, safeDue := false } }
  ((s.setZone .t0 .loadEnd n).setZone .t0 .centre n).setZone .t0 .sourceEnd n

/-- The exchange in progress is with node `n`, whose miss count is `k`, fresh or stale. -/
def polled (s : State) (n : NodeId) (k : Nat) (fresh : Bool) : State :=
  (s.setStatus n { fresh := fresh, cause := .missed, misses := k, pollDue := false, safeDue := false }).setExchange
    (some { node := n, safe := false, message := .bank })

/-- The next state of an outcome, the state after reset where there is none. -/
def nextOf (o : Host.Outcome State Fault Refusal) : State :=
  match o with
  | .next u => u
  | _ => State.reset

/-! ### Ill-formed commands, one for each check of `Instr.wf` -/

theorem test_wf_read : (Instr.read .facility 256 0).wf = false ∧ (Instr.read .facility 0 256).wf = false ∧
    (Instr.readStep .facility 65536).wf = false ∧ (Instr.read .facility 255 255).wf = true := by decide

theorem test_wf_memory : (Instr.writeStep .facility 65536 (List.replicate 48 0)).wf = false ∧
    (Instr.writeStep .facility 0 (List.replicate 47 0)).wf = false ∧
    (Instr.writeStep .facility 0 (List.replicate 49 0)).wf = false ∧ (Instr.start .facility 65536).wf = false := by decide

theorem test_wf_service : (Instr.serviceIn .facility (some 256)).wf = false ∧
    (Instr.serviceOut .facility (some 256)).wf = false := by decide

theorem test_wf_clears : (Instr.clearEvents .facility 65536).wf = false ∧ (Instr.clearMark .facility 256).wf = false ∧
    (Instr.clearBankEvents .facility 256).wf = false := by decide

theorem test_wf_setting : (Instr.settingWrite .facility true 256 0 []).wf = false ∧
    (Instr.settingWrite .facility true 0 256 []).wf = false ∧
    (Instr.setRegions .facility 65536 0 0).wf = false ∧ (Instr.setRegions .facility 0 65536 0).wf = false ∧
    (Instr.setRegions .facility 0 0 65536).wf = false := by decide

theorem test_wf_value : (Instr.settingWrite .facility true 0 0 (List.replicate 249 0)).wf = false := by
  have h : fitsValue (List.replicate 249 0) = false := by
    unfold fitsValue
    rw [List.length_replicate]
    decide
  simp only [-List.reduceReplicate, Instr.wf, h, Bool.and_false]

theorem test_wf_tubeSettings : (Instr.lineConfigurationWrite .facility .t0 .l0 256 0).wf = false ∧
    (Instr.lineConfigurationWrite .facility .t0 .l0 0 65536).wf = false ∧
    (Instr.tmaxWrite .facility .t0 65536).wf = false ∧ (Instr.strokeWrite .facility .t0 65536).wf = false ∧
    (Instr.standbyFlowWrite .facility .t0 65536).wf = false ∧ (Instr.idleFlowWrite .facility .t0 65536).wf = false ∧
    (Instr.idlePeriodWrite .facility .t0 65536).wf = false ∧ (Instr.maskWrite .facility .t0 true 256).wf = false ∧
    (Instr.eventEnablesWrite .facility .t0 65536).wf = false ∧ (Instr.pushBandWrite .facility .t0 65536).wf = false ∧
    (Instr.sealBandWrite .facility .t0 65536).wf = false := by decide

theorem test_wf_proofSettings : (Instr.proofSourceWrite .facility (.bank .estop) 256).wf = false ∧
    (Instr.exhThresholdWrite .facility .t0 true 65536).wf = false ∧
    (Instr.coolingThresholdWrite .facility 65536).wf = false ∧
    (Instr.debounceWrite .facility (.bank .estop) 256).wf = false ∧
    (Instr.flowToleranceWrite .facility true 65536).wf = false := by decide

theorem test_wf_bankSettings : (Instr.capacityWrite .facility .inert 4294967296).wf = false ∧
    (Instr.inertReserveWrite .facility 4294967296).wf = false ∧ (Instr.admissionPolicyWrite .facility 256).wf = false ∧
    (Instr.budgetWrite .facility 65536).wf = false ∧ (Instr.holdReserveWrite .facility 256 0).wf = false ∧
    (Instr.holdReserveWrite .facility 0 65536).wf = false ∧ (Instr.rampOrderWrite .facility (.order 256)).wf = false ∧
    (Instr.rampOrderWrite .facility (.priorities 0 1 2 256)).wf = false ∧ (Instr.cmaxWrite .facility 256 0).wf = false ∧
    (Instr.cmaxWrite .facility 0 65536).wf = false := by decide

theorem test_wf_link : (Instr.goodReply (.zone .t0 .centre) (.zone 65536 .ok)).wf = false ∧
    (Instr.goodReply (.flow .t0) (.flow ⟨0, 0, 0, 0, 0, 65536⟩)).wf = false ∧
    (Instr.goodReply (.loader .t0) (.loader 65536 .yes)).wf = false ∧
    (Instr.goodReply (.loader .t0) (.zone 0 .ok)).wf = false ∧ (Instr.lenAbove250 .facility 250).wf = false ∧
    (Instr.lenAbove250 .facility 251).wf = true := by decide

/-! ### Worked tables of the spec -/

/-- Table 30, rows 2 to 4: zone setpoints with their clamp. -/
theorem test_zoneSetpoint_table30 :
    let z := fun (s : Nat) (o : PerZone Int) =>
      ZoneId.all.map ({ Tube.powerOn with setpoint := s, offsets := o } : Tube).zoneSetpoint
    z 99987 ⟨-30, 0, 20⟩ = [9968, 9998, 10018] ∧ z 150 ⟨-50, 0, 50⟩ = [0, 15, 65] ∧
      z 119950 ⟨100, 0, 100⟩ = [12000, 11995, 12000] := by decide

/-- Worked ramp (3.2): rate 750 alternates increments of 12 and 13. -/
theorem test_ramp_alternates : rampMove .up 80000 0 750 100000 = (80012, 30, false) ∧
    rampMove .up 80012 30 750 100000 = (80025, 0, false) ∧ rampMove .up 99987 30 750 100000 = (100000, 0, true) := by
  decide

/-- A powered-on record reads back as action 7 with every other byte 0 (R5). -/
theorem test_powerOn_record : State.reset.readRecord 1023 = powerOnRecord := by decide

/-- The frame of HOLD: A5 00 05 FB, its LEN, CODE and CHECK summing to 0 mod 256 (R155). -/
theorem test_hold_frame : frameBytes { code := 5, payload := [] } = [0xA5, 0x00, 0x05, 0xFB] := by decide

/-- ABORT of a RUNNING tube with nothing else set enters ABORTING for the power-on time of 300 s (R34). -/
theorem test_abort : ((nextOf (exec (.abort (.station .t0)) (onRec (.running .execute) soakRec))).tube .t0).mode =
    .aborting 300 := by decide

/-- HOLD from a station whose tube is OUT_OF_SERVICE is refused BAD_STATE, code 3 (R29, Table 75). -/
theorem test_hold_refused : ((nextOf (exec (.hold (.station .t0)) State.reset)).port (.station .t0)).replies =
    [{ code := 0x81, payload := [3, 5] }] := by decide

/-- A capacity of 300,000 is clamped to 200,000 (R87). -/
theorem test_capacity_clamped :
    (nextOf (exec (.capacityWrite .facility .inert 300000) State.reset)).gas.capacity.inert = 200000 := by decide

/-- SERVICE_IN enters SETTLING with 2.0 s (R25). -/
theorem test_serviceIn : ((nextOf (exec (.serviceIn (.station .t0) none) State.reset)).tube .t0).mode = .settling 20 := by
  decide

/-- The safe exchange of node 0 is the first that the link takes after reset, with setpoint 0 and ceiling 0 (R144, R149). -/
theorem test_first_exchange : (nextOf (exec .exchangeTaken State.reset)).link.exchange =
    some { node := .zone .t0 .loadEnd, safe := true, message := .zone 0 0 } := by decide

/-- Table 34: the first four ticks of the worked idle ramp. -/
theorem test_idleRamp_table34 : idleMove 100000 0 500 40000 = (99992, 20) ∧ idleMove 99992 20 500 40000 = (99984, 40) ∧
    idleMove 99984 40 500 40000 = (99975, 0) ∧ idleMove 99975 0 500 40000 = (99967, 20) := by decide

/-- Table 54: ticks 1, 3001 to 3003 and 6000 of the worked push. -/
theorem test_push_table54 : motionMove .push 0 0 300 20000 = (5, 0, false) ∧
    motionMove .push 15000 0 100 20000 = (15001, 40, false) ∧ motionMove .push 15001 40 100 20000 = (15003, 20, false) ∧
    motionMove .push 19998 20 100 20000 = (20000, 0, true) := by decide

/-- The bank of Table 43 before the cut: tube 0 in its emergency purge with 30,000, tube 1 with 25,000 and 15,000. -/
def table43 : State :=
  let lines := fun (x : Tube) => { x.settings with
    lines := x.settings.lines.set .l1 { header := some .inert, maximum := 20000 } }
  let s := State.reset.modTube .t0 fun x => { x with
    mode := .aborting 300, step := some (freshStep 0 soakRec none), settings := lines x
    gas := { grant := { zeroLines with l0 := 30000 }, command := { zeroLines with l0 := 30000 }, emergency := true } }
  let s := s.modTube .t1 fun x => { x with
    mode := .idle none, settings := lines x
    gas := { grant := { zeroLines with l0 := 25000, l1 := 15000 }, command := { zeroLines with l0 := 25000, l1 := 15000 },
             emergency := false } }
  { s with gas := { s.gas with capacity := ⟨100000, 0, 0, 0⟩, reserve := 30000 } }

/-- Table 43: the cut of INERT to 60,000 has factor 857 and leaves 25,710 and 21,425 + 12,855. -/
theorem test_cut_table43 : table43.grantSum .inert = 70000 ∧ table43.cutFactor .inert 60000 = 857 ∧
    ((State.cutTube .inert 857 table43 .t0).tube .t0).gas.grant = { zeroLines with l0 := 25710 } ∧
    ((State.cutTube .inert 857 table43 .t1).tube .t1).gas.grant = { zeroLines with l0 := 21425, l1 := 12855 } := by decide

/-- The bank of Table 48: the four tubes in service with Ht 2500, grants [1: 1500, 3: 500], B 12,000. -/
def table48 : State :=
  let s := TubeId.all.foldl (fun s t => s.modTube t fun x => { x with mode := .idle none }) State.reset
  { s with
    power := { s.power with
      budget := 12000, holdReserve := ⟨2500, 2500, 2500, 2500⟩
      grants := [{ tube := .t1, amount := 1500 }, { tube := .t3, amount := 500 }] }
    monitor := { s.monitor with coolingProof := { s.monitor.coolingProof with proven := true } } }

/-- Table 48: B written as 9000 revokes both grants, youngest first, and throttles to 900. -/
theorem test_budget_table48 :
    let u := nextOf (exec (.budgetWrite .facility 9000) table48)
    u.power.grants = [] ∧ u.power.requests.map RampRequest.tube = [.t3, .t1] ∧ u.power.throttle = 900 ∧
      u.commitment = 10000 := by decide

/-- Table 49: B written as 10,500 after that grants tube 3 and leaves tube 1 oversize. -/
theorem test_budget_table49 :
    let s := { table48 with power := { table48.power with
      budget := 9000, grants := [], throttle := 900
      requests := [{ tube := .t3, amount := 500, oversize := true }, { tube := .t1, amount := 1500, oversize := true }] } }
    let u := nextOf (exec (.budgetWrite .facility 10500) s)
    u.power.grants.map RampGrant.tube = [.t3] ∧ u.power.requests.map RampRequest.oversize = [true] ∧
      u.power.throttle = 1000 ∧ u.power.pointer = .t3 := by decide

/-- Table 50, column ROTATE: tube 0 is granted and tube 2 ends the pass. -/
theorem test_rotate_table50 :
    let s := { table48 with power := { table48.power with
      budget := 10000, holdReserve := ⟨2000, 2000, 2000, 2000⟩, grants := [], order := .rotate
      requests := [{ tube := .t0, amount := 1500, oversize := false }, { tube := .t2, amount := 800, oversize := false },
                   { tube := .t3, amount := 400, oversize := false }] } }
    s.rampPass.power.grants.map RampGrant.tube = [.t0] ∧ s.rampPass.power.requests.map RampRequest.tube = [.t2, .t3] ∧
      s.rampPass.commitment = 9500 ∧ s.rampPass.power.pointer = .t0 := by decide

/-! ### Witnesses: states and operands that meet the hypotheses of the statements -/

theorem witness_StepRunsFrontCommand : ({ State.reset with pending := [.bankHold .facility] } : State).pending =
    Instr.bankHold .facility :: [] := rfl

/-- Nothing due: EXH of tube 0 counts its last but one 0.1 s, its FLOW hold ends, that of tube 1 goes on. -/
def counting : State :=
  (tube0 fun x => { x with flowSettle := 1, exhProof := { x.exhProof with raw := true, debounce := 2 } }).modTube .t1
    fun x => { x with flowSettle := 2 }

/-- One edge due: EXH of tube 0 with debounce 0. -/
def oneEdge : State := tube0 fun x => { x with exhProof := { x.exhProof with raw := true, debounce := 0 } }

theorem witness_EmptyQueueCountsProofs :
    let due := fun (s : State) (p : ProofId) =>
      (¬(∃ t, p = .tube t .flow ∧ 0 < (s.tube t).flowSettle) ∧ (s.proof p).raw ≠ (s.proof p).proven ∧
        (s.proof p).debounce ≤ (s.proof p).count + 1) ∨
      ((∃ t, p = .tube t .flow ∧ (s.tube t).flowSettle = 1) ∧ s.rawNow p ≠ (s.proof p).proven ∧ (s.proof p).debounce = 0)
    (counting.pending = [] ∧ counting.jobs = [] ∧ (counting.tube .t0).flowSettle = 1 ∧ (counting.tube .t1).flowSettle = 2 ∧
      (counting.proof (.tube .t0 .exh)).raw ≠ (counting.proof (.tube .t0 .exh)).proven ∧ ∀ p, ¬due counting p) ∧
    oneEdge.pending = [] ∧ oneEdge.jobs = [] ∧ oneEdge.monitor.flowSettleTime ≠ 0 ∧ due oneEdge (.tube .t0 .exh) ∧
      ∀ q, q ≠ .tube .t0 .exh → ¬due oneEdge q := by
  intro due
  refine ⟨⟨by decide, by decide, by decide, by decide, by decide, ?_⟩, by decide, by decide, by decide,
    .inl ⟨?_, by decide, by decide⟩, ?_⟩
  · intro p h
    rcases p with ⟨t, k⟩ | k
    · cases t <;> cases k <;> rcases h with ⟨-, h1, h2⟩ | ⟨⟨t, ht, -⟩, h1, h2⟩ <;>
        first | exact h1 (by decide) | exact absurd h2 (by decide) | cases ht
    · cases k <;> rcases h with ⟨-, h1, h2⟩ | ⟨⟨t, ht, -⟩, h1, h2⟩ <;> first | exact h1 (by decide) | cases ht
  · rintro ⟨t, ht, -⟩
    cases ht
  · intro p hp h
    rcases p with ⟨t, k⟩ | k
    · cases t <;> cases k <;> rcases h with ⟨-, h1, h2⟩ | ⟨⟨t, ht, h3⟩, h1, h2⟩ <;>
        first | exact hp rfl | exact h1 (by decide) | cases ht
    · cases k <;> rcases h with ⟨-, h1, h2⟩ | ⟨⟨t, ht, -⟩, h1, h2⟩ <;> first | exact h1 (by decide) | cases ht

theorem witness_ChangedSummaryIsNoted :
    (nextOf (step { State.reset with pending := [.bankHold .facility] })).summary .facility ≠
      State.reset.summary .facility ∧
    ((State.reset.port .facility).notePending = true ∧ State.reset.pending.head? ≠ some (.transmitterFree .facility)) ∧
    (State.reset.setGas .t0 { TubeGas.zero with grant := { zeroLines with l0 := 1 } }).grantSum .inert ≠
      State.reset.grantSum .inert ∧
    (tube0 fun x => { x with gas := { TubeGas.zero with grant := { zeroLines with l0 := 1 } } }).grantOn .t0 .inert ≠ 0 ∧
    (State.reset.modPower fun p => { p with budget := 1 }).power.budget ≠ State.reset.power.budget ∧
    (State.reset.modPower fun p => { p with throttle := 999 }).power.throttle ≠ State.reset.power.throttle := by decide

theorem witness_InternalStepsKeepSettings : (Instr.rampTick .t0).isInternal = true ∧
    (Instr.flowSettleEnd .t3).isInternal = true := by decide

/-- The facility engine, with nothing else due, with this frame queued. -/
def waiting (f : Frame) : State := State.reset.modPort .facility fun e => { e with notePending := false, queue := [f] }

theorem witness_SetpointMovedByListedRowsOnly : ((Instr.hold .facility).mayMoveSetpoint = false ∧
      (Instr.settingWrite .facility false 0x44 0 []).mayMoveSetpoint = false) ∧
    (∀ f rest, ((waiting ⟨0x0B, [0x44]⟩).port .facility).queue = f :: rest →
      f.code ≠ 0x24 ∧ (f.code = 0x0B → f.payload.head? ≠ some 0x43)) ∧ State.reset.pending = [] := by
  refine ⟨by decide, ?_, rfl⟩
  intro f rest h
  cases h
  decide

/-- A state that meets every invariant, with a run held: tube 0 HELD (STATION) in a RAMP. -/
def heldRamp : State := onRec (.held .station .execute) rampRec

theorem witness_steps : ∃ u, step heldRamp = .next u := ⟨_, rfl⟩

theorem witness_ProfileMemoryInvariantKept : heldRamp.memoryInv ∧ heldRamp.regionInv := by
  refine ⟨⟨by decide, ?_⟩, by decide, by decide, by decide⟩
  intro c h
  cases h

theorem witness_HeaderCapacityInvariantKept : heldRamp.headerInv := by
  refine ⟨?_, ?_, ?_, ?_, by decide⟩
  · intro h; cases h <;> decide
  · intro t; cases t <;> decide
  · intro t; cases t <;> decide
  · intro e h; cases h

theorem witness_TravelInvariantKept : heldRamp.travelInv := by
  have key : ∀ st, some (freshStep 0 rampRec none) = some st →
      (recAction st.record = some .ramp → recTarget st.record ≤ 12000) ∧
      (recAction st.record = some .push ∨ recAction st.record = some .pull → recTarget st.record ≤ 24000) := by
    intro st h
    cases h
    decide
  intro t
  cases t
  · exact ⟨by decide, by decide, by decide, by decide, fun st h _ => key st h⟩
  all_goals exact ⟨by decide, by decide, by decide, by decide, fun st h => by cases h⟩

theorem priorityInv_reset : State.reset.priorityInv := by
  unfold State.priorityInv
  decide

theorem witness_PowerInvariantKept : heldRamp.powerInv ∧ heldRamp.priorityInv := by
  refine ⟨⟨.inl rfl, by decide, ?_⟩, priorityInv_reset⟩
  intro t z
  cases t <;> cases z <;> decide

theorem witness_PortAndLinkBoundsKept : heldRamp.portInv := by
  refine ⟨?_, ?_⟩
  · intro p
    refine ⟨?_, ?_, ?_⟩
    · rcases p with t | _
      · cases t <;> decide
      · decide
    · rcases p with t | _
      · cases t <;> decide
      · decide
    · intro c n h
      rcases p with t | _
      · cases t <;> cases h
      · cases h
  · intro n
    rcases n with ⟨t, z⟩ | t | t | _
    · cases t <;> cases z <;> decide
    · cases t <;> decide
    · cases t <;> decide
    · decide

theorem witness_TubeStateInvariantKept : heldRamp.modeInv := by
  intro t
  refine ⟨?_, ?_, ?_, ?_, ?_⟩
  all_goals cases t
  all_goals first | decide | (intro h; exact absurd h (by decide))

/-- Mark 0 set by tube 1, tube 0 waiting on mark 7 in a SYNC at the last index of its region. -/
def syncing : State :=
  ((tube0 fun x => { x with mode := .held .station .execute, step := some (freshStep 255 (syncRec.set 6 1) none) }).setMark
    .m0 { set := true, setter := some .t1, waiters := [] }).setMark .m7 { Mark.clear with waiters := [⟨.t0, true⟩] }

theorem witness_RecipeAndMarksInvariantKept : syncing.recipeInv ∧ syncing.markInv := by
  refine ⟨?_, ?_⟩
  · intro t st h
    cases t <;> cases h
    exact ⟨fun _ => by decide, fun _ => by decide⟩
  · intro m
    cases m <;> decide

/-- Tube 0 in a PURGE that runs on its grant, the whole INERT capacity of 100. -/
def purging : State :=
  { tube0 fun x => { x with
      mode := .running .execute, step := some (freshStep 0 purgeRec none)
      gas := { grant := { zeroLines with l0 := 100 }, command := { zeroLines with l0 := 100 }, emergency := false } }
    with gas := { State.reset.gas with capacity := ⟨100, 0, 0, 0⟩ } }

theorem witness_GasInvariantKept :
    purging.headerInv ∧ purging.modeInv ∧ purging.recipeInv ∧ purging.gasInv ∧ purging.jobs = [] := by
  refine ⟨⟨?_, ?_, ?_, ?_, by decide⟩, ?_, ?_, ⟨?_, ?_, ?_, ?_⟩, rfl⟩
  · intro h; cases h <;> decide
  · intro t; cases t <;> decide
  · intro t; cases t <;> decide
  · intro e h; cases h
  · intro t
    refine ⟨?_, ?_, ?_, ?_, ?_⟩
    all_goals cases t
    all_goals first | decide | (intro h; exact absurd h (by decide))
  · intro t st h
    cases t <;> cases h
    exact ⟨fun _ => by decide, fun _ => by decide⟩
  · intro t l; cases t <;> cases l <;> decide
  · intro t h l _
    cases t
    · exact absurd h (by decide)
    all_goals cases l <;> decide
  · intro e h; cases h
  · intro t st h _ _
    cases t <;> cases h
    exact ⟨by decide, by decide, by decide, by decide, .inr (.inr ⟨by decide, by decide, by decide⟩)⟩

theorem witness_CommandPayloadReadsBack : Cmd.wf .facility (.read 255 255) = true ∧
    Cmd.wf .facility (.readStep 65535) = true ∧ Cmd.wf (.station .t0) (.serviceIn none) = true ∧
    Cmd.wf .facility (.serviceIn (some 255)) = true ∧ Cmd.wf .facility (.set true 0x10 0 [4294967295]) = true ∧
    Cmd.wf .facility (.set true 0xFF 255 []) = true ∧ Cmd.wf (.station .t0) (.set false 0x42 255 [255, 65535]) = true := by
  decide

/-- The facility engine with a queue of `n` frames of HOLD. -/
def queued (n : Nat) : State := State.reset.modPort .facility fun e => { e with queue := List.replicate n ⟨5, []⟩ }

/-- The facility engine while it receives these bytes. -/
def receiving (bytes : List Byte) : State := State.reset.modPort .facility fun e => { e with rx := some bytes }

theorem witness_FramesReceivedOrAbandoned : ((queued 3).jobs = [] ∧ ((queued 3).port .facility).rx = none ∧
      ([] : List Byte).length ≤ 250 ∧ ((queued 3).port .facility).queue.length < 4) ∧
    ((queued 4).jobs = [] ∧ ((queued 4).port .facility).rx = none ∧ ((queued 4).port .facility).queue.length = 4) ∧
    (0 : Byte) ≠ frameCheck ⟨5, []⟩ ∧ (State.reset.port .facility).rx = none ∧
    ((receiving []).port .facility).rx = some [] ∧ 250 < (251 : Byte).toNat ∧
    ((receiving [1]).port .facility).rx = some [1] ∧ (receiving [1]).jobs = [] := by decide

/-- The facility engine with these things due. -/
def due (replies : List Frame) (reject : Nat) (note : Bool) (overrun : Option (Byte × Nat)) : State :=
  State.reset.modPort .facility fun e =>
    { e with replies := replies, rejectFrame := reject, notePending := note, rejectOverrun := overrun }

theorem witness_TransmitterSendsFirstDue :
    ((due [⟨0x80, [5]⟩] 1 true none).port .facility).replies = ⟨0x80, [5]⟩ :: [] ∧
    (((due [] 1 true none).port .facility).replies = [] ∧ 0 < ((due [] 1 true none).port .facility).rejectFrame) ∧
    (((due [] 0 true none).port .facility).rejectFrame = 0 ∧ ((due [] 0 true none).port .facility).notePending = true ∧
      ((due [] 0 true none).port .facility).rx = none) ∧
    (((due [] 0 false (some (9, 1))).port .facility).notePending = false ∧
      ((due [] 0 false (some (9, 1))).port .facility).rejectOverrun = some (9, 1) ∧
      ((due [] 0 false (some (9, 1))).port .facility).queue = []) ∧
    ((due [] 0 false none).port .facility).rejectOverrun = none ∧ ((due [] 0 false none).port .facility).sending = none ∧
    (due [] 0 false none).jobs = [] := by decide

theorem witness_CommandTakenIsJudged :
    ((waiting ⟨0x77, []⟩).jobs = [] ∧ ((waiting ⟨0x77, []⟩).port .facility).mayTake = true ∧
      ((waiting ⟨0x77, []⟩).port .facility).queue = ⟨0x77, []⟩ :: [] ∧ codeClass? (0x77 : Byte).toNat = none) ∧
    ((codeClass? (0x05 : Byte).toNat).any fun k => !k.allows .facility) = true ∧
    (((codeClass? (0x24 : Byte).toNat).any fun k => k.allows .facility) = true ∧
      parse? .facility (0x24 : Byte).toNat [1] = none) ∧
    ((Instr.bankHold .facility).asCmd = some (.facility, .bankHold) ∧ Cmd.wf .facility .bankHold = true ∧
      ((codeClass? Cmd.bankHold.code).any fun k => k.allows .facility) = true) := by decide

theorem witness_CommandsRefusedAtThePort :
    (State.reset.jobs = [] ∧ (Instr.bankHold (.station .t0)).asCmd = some (.station .t0, .bankHold) ∧
      ((codeClass? Cmd.bankHold.code).any fun k => !k.allows (.station .t0)) = true) ∧
    ((inMode (.settling 20)).jobs = [] ∧ ((inMode (.settling 20)).tube .t0).mode = .settling 20 ∧
      (Instr.hold (.station .t0)).asCmd = some (.station .t0, .hold) ∧ Cmd.lengthOk (.station .t0) .hold = true ∧
      Cmd.isServiceOut .hold = false ∧
      ((codeClass? Cmd.hold.code).any fun k => k.allows (.station .t0)) = true) ∧
    ((onRec (.running .notStarted) soakRec).tube .t0).mode = .running .notStarted ∧ 4 ≤ 4 := by decide

/-- Values refused by item, index, length and owner: each index just past its item's range, an item code that names none. -/
theorem witness_CommandsRefusedAtThePort_items :
    ((Instr.settingWrite .facility true 0x10 4 [0, 0, 0, 0]).asCmd = some (.facility, .set true 0x10 4 [0]) ∧
      Cmd.lengthOk .facility (.set true 0x10 4 [0]) = true ∧ State.reset.portSettling .facility = false ∧
      ((codeClass? (Cmd.set true 0x10 4 [0]).code).any fun k => k.allows .facility) = true) ∧
    ((Instr.settingWrite .facility true 0x10 0 [0]).asCmd.any fun c => !c.2.lengthOk .facility) = true ∧
    (([(0x10, 4), (0x19, 4), (0x1C, 12), (0x23, 2), (0x2C, 2), (0x43, 1), (0x43, 64), (0x42, 6), (0x50, 4), (0x53, 2),
      (0x80, 0), (0x18, 1)] : List (Nat × Nat)).all fun x => settingOf? x.1 x.2 == none) = true ∧
    ((settingOf? 0x45 0).map Setting.owner = some (some .t0) ∧ (settingOf? 0x18 0).map Setting.owner = some none) := by
  decide

theorem witness_RunCommandsRefusedByState :
    (State.reset.jobs = [] ∧ (State.reset.tube .t0).mode.isSettling = false ∧ State.reset.monitor.latch = true) ∧
    ((released State.reset false).monitor.latch = false ∧ (released State.reset false).inRegion .t0 256 = false) ∧
    ((released State.reset false).inRegion .t0 255 = true ∧ (State.reset.tube .t0).mode.isIdle = false ∧
      (State.reset.tube .t0).mode ≠ .idlePurge) ∧
    ((State.reset.tube .t0).mode.isRun = false ∧ (State.reset.tube .t0).mode.isAborting = false) ∧
    (((released heldRamp true).tube .t0).mode = .held .station .execute ∧
      ((released heldRamp true).tube .t0).step = some (freshStep 0 rampRec none) ∧
      (released heldRamp true).monitor.hold = true) ∧
    (heldRamp.tube .t0).mode ≠ .outOfService ∧ (heldRamp.tube .t0).mode.isIdle = false ∧
    (heldRamp.tube .t0).mode ≠ .idlePurge := by decide

theorem witness_ReadsAnswerAndChangeNothing :
    (State.reset.portSettling (.station .t0) = false ∧ State.reset.quietPort (.station .t0) ∧
      State.reset.readItem 0x77 0 = none ∧ (State.reset.readItem 0x10 3).isSome = true) ∧
    (inMode (.settling 20)).portSettling (.station .t0) = true ∧ 1023 < 1024 ∧ 1024 ≤ 1024 :=
  ⟨⟨rfl, by unfold State.quietPort; decide, by decide, by decide⟩, by decide, by decide, by decide⟩

theorem witness_WriteStepReplacesOneRecord : State.reset.jobs = [] ∧ memWf State.reset.profile = true ∧
    (State.reset.tube .t0).mode.isSettling = false ∧ State.reset.activeTube .t0 = false ∧ soakRec.length = 48 ∧
    State.reset.inRegion .t0 255 = true ∧ State.reset.inRegion .t0 256 = false ∧ State.reset.inRegion .t3 1024 = false := by
  decide

theorem witness_RegionsWrittenTogether : State.reset.jobs = [] ∧ ¬(min 2 1024 ≤ min 1 1024 ∧ min 1 1024 ≤ min 3 1024) ∧
    (min 1 1024 ≤ min 512 1024 ∧ min 512 1024 ≤ min 2000 1024) ∧
    ((State.reset.regionStart .t0, State.reset.regionEnd .t0) ≠ ((0 : Nat), 1) ∧
      (heldRamp.tube .t0).mode ≠ .outOfService ∧ (heldRamp.tube .t0).mode.isIdle = false) ∧
    ∀ t, (State.reset.tube t).mode = .outOfService := by
  refine ⟨by decide, by decide, by decide, by decide, ?_⟩
  intro t
  cases t <;> decide

theorem witness_CheckStopsAtFirstFailure : ((recordOf []).getD 0 0).toNat = 0 ∧
    7 < ((recordOf [(0, 8)]).getD 0 0).toNat ∧ (0 < ((recordOf [(0, 1)]).getD 0 0).toNat ∧
      ((recordOf [(0, 7)]).getD 0 0).toNat ≤ 7) := by decide

theorem calm_reset : ∀ (s : State) (t : TubeId), s.jobs = [] → s.monitor.flowSettleTime ≠ 0 → s.gas.queue = [] →
    s.calm t := fun s t h1 h2 h3 => ⟨h1, h2, fun e he => absurd he (by rw [h3]; exact List.not_mem_nil)⟩

/-- Tube 0 IDLE, the latch clear, with this record at index 0. -/
def ready (r : List Byte) (hold exh : Bool) : State :=
  released (((inMode (.idle none)).modTube .t0 fun x =>
    { x with exhProof := { x.exhProof with proven := exh } }).writeRecord 0 r) hold

/-- The same with an INERT capacity. -/
def readyGas (r : List Byte) (exh : Bool) (capacity : Nat) : State :=
  { ready r false exh with gas := { State.reset.gas with capacity := ⟨capacity, 0, 0, 0⟩ } }

/-- The flows of `purgeRec` just fit, and do not by 1. -/
theorem witness_grantsAtOnce : (readyGas purgeRec false 100).grantsAtOnce .t0 (recFlows purgeRec) ∧
    ¬(readyGas purgeRec false 99).grantsAtOnce .t0 (recFlows purgeRec) := by
  refine ⟨.inr fun h => by cases h <;> decide, fun h => ?_⟩
  rcases h with h | h
  · exact absurd (h .inert) (by decide)
  · exact absurd (h .inert) (by decide)

theorem witness_StartLoadsAndBegins :
    ((ready soakRec false true).calm .t0 ∧ (ready soakRec false true).monitor.latch = false ∧
      (ready soakRec false true).inRegion .t0 0 = true ∧ ((ready soakRec false true).tube .t0).mode.isIdle = true) ∧
    stepCheck (ready badRec false true) .t0 0 ((ready badRec false true).readRecord 0) = some 1 ∧
    (stepCheck (ready soakRec true true) .t0 0 ((ready soakRec true true).readRecord 0) = none ∧
      (ready soakRec true true).monitor.hold = true) ∧
    (stepCheck (ready soakRec false false) .t0 0 ((ready soakRec false false).readRecord 0) = none ∧
      recHasGas ((ready soakRec false false).readRecord 0) = false ∧
      ((ready soakRec false false).tube .t0).exhProof.proven = false) ∧
    (stepCheck (readyGas purgeRec false 99) .t0 0 ((readyGas purgeRec false 99).readRecord 0) = none ∧
      recHasGas ((readyGas purgeRec false 99).readRecord 0) = true ∧
      ((readyGas purgeRec false 99).tube .t0).exhProof.proven = false) :=
  ⟨⟨calm_reset _ _ (by decide) (by decide) (by decide), by decide, by decide, by decide⟩, by decide, by decide, by decide,
    by decide⟩

/-- Every kind of step that passes its check from `ready`, with the proofs, the zone reading and the mark that it waits for. -/
theorem witness_StepsEnterExecute :
    (([soakRec, rampRec, pushRec, syncRec, recordOf [(0, 7)], purgeRec].map fun r =>
      stepCheck (ready r false true) .t0 0 ((ready r false true).readRecord 0)) = [none, none, none, none, none, none]) ∧
    ( let s := ready rampRec false true
      s.calm .t0 ∧ s.monitor.hold = false ∧ (s.tube .t0).exhProof.proven = true ∧ (s.tube .t0).gas.command = zeroLines ∧
        (s.tube .t0).setpoint < 10 * recTarget rampRec ∧ s.powerInv ∧ s.priorityInv ∧ s.power.requests = [] ∧
        ¬(s.monitor.coolingProof.proven = true ∧ s.commitment + recRampPower rampRec ≤ s.power.budget)) ∧
    ( let s := { ready rampRec false true with
        power := { State.reset.power with budget := 1 }
        monitor := { (ready rampRec false true).monitor with coolingProof :=
          { State.reset.monitor.coolingProof with proven := true } } }
      s.monitor.coolingProof.proven = true ∧ s.commitment + recRampPower rampRec ≤ s.power.budget) ∧
    10 * recTarget rampRec < (({ (ready rampRec false true).tube .t0 with setpoint := 51 } : Tube)).setpoint ∧
    ( let s := withZones (ready pushRec false true)
      (∀ h, h ≠ .inert → s.normalGrant .t0 h = 0) ∧ s.freshZone .t0 .loadEnd = some 0 ∧
        distance 0 ((s.tube .t0).zoneSetpoint .loadEnd) ≤ (s.tube .t0).settings.pushBand) ∧
    (MarkId.m0.num = recMarkWait syncRec ∧ ((ready syncRec false true).mark .m0).set = false ∧
      (ready syncRec false true).waitsOn .t0 .m0 = false) ∧
    (recMarkSetMark (recordOf [(0, 7)]) = 0 ∧ (ready (recordOf [(0, 7)]) false true).hasRampGrant .t0 = false ∧
      (ready (recordOf [(0, 7)]) false true).hasRampRequest .t0 = false) ∧
    ( let s := (readyGas purgeRec true 100).modTube .t0 fun x => { x with
        flowProof := { x.flowProof with proven := true }, sealProof := { x.sealProof with proven := true } }
      s.grantsAtOnce .t0 (recFlows purgeRec) ∧ (s.tube .t0).flowProof.proven = true ∧
        (s.tube .t0).sealProof.proven = true) := by
  refine ⟨by decide, ⟨calm_reset _ _ (by decide) (by decide) (by decide), by decide, by decide, by decide, by decide,
    ⟨.inl rfl, by decide, fun t z => by cases t <;> cases z <;> decide⟩, priorityInv_reset, by decide, by decide⟩, by decide,
    by decide, ⟨fun h _ => by cases h <;> decide, by decide, by decide⟩, by decide, by decide,
    ⟨.inr fun h => by cases h <;> decide, by decide, by decide⟩⟩

theorem witness_HoldKeepsPhaseAndCounters : ((onRec (.running .acquire) soakRec).jobs = [] ∧
      ((onRec (.running .acquire) soakRec).tube .t0).mode = .running .acquire) ∧
    (heldRamp.tube .t0).mode = .held .station .execute ∧ (State.reset.tube .t0).mode.isRun = false ∧
    (State.reset.tube .t0).mode.isSettling = false := by decide

/-- Tube 0's request for 1 sccm on line 0 is in the queue. -/
def queuedGas (s : State) : State :=
  s.setQueue [{ tube := .t0, amount := ⟨1, 0, 0, 0⟩, flows := { zeroLines with l0 := 1 }, oversize := true }]

theorem witness_ResumeByHoldReason :
    (heldRamp.jobs = [] ∧ heldRamp.monitor.hold = false ∧ (heldRamp.tube .t0).step = some (freshStep 0 rampRec none) ∧
      (heldRamp.tube .t0).mode = .held .station .execute ∧ recAction rampRec ≠ some .sync) ∧
    (((onRec (.held .station .acquire) purgeRec).tube .t0).mode = .held .station .acquire ∧
      (queuedGas (onRec (.held .station .acquire) purgeRec)).hasGasEntry .t0 = true ∧
      (onRec (.held .station .acquire) purgeRec).hasGasEntry .t0 = false ∧
      ((onRec (.held .station .acquire) purgeRec).tube .t0).exhProof.proven = false) ∧
    ((onRec (.held .station .prove) soakRec).tube .t0).mode = .held .station .prove ∧
    (recAction syncRec = some .sync ∧ MarkId.m0.num = recMarkWait syncRec ∧
      ((onRec (.held .station .execute) syncRec).mark .m0).set = false) ∧
    (((onRec (.held .fault .execute) rampRec).tube .t0).mode = .held .fault .execute ∧ Phase.execute ≠ .notStarted ∧
      ((onRec (.held .fault .execute) rampRec).tube .t0).exhProof.proven = false) ∧
    ( let s := (onRec (.held .bank .notStarted) (recordOf [])).writeRecord 0 soakRec
      (s.tube .t0).mode = .held .bank .notStarted ∧ stepCheck s .t0 0 (s.readRecord 0) = none ∧
        recHasGas (s.readRecord 0) = false) ∧
    ( let s := (onRec (.held .invalid .notStarted) (recordOf [])).writeRecord 0 badRec
      (s.tube .t0).mode = .held .invalid .notStarted ∧ stepCheck s .t0 0 (s.readRecord 0) = some 1) := by decide

/-- A SYNC resumed on a set mark, its link target a record that fails. -/
theorem witness_ResumeByHoldReason_sync :
    let s := ((onRec (.held .station .execute) syncRec).writeRecord 1 badRec).setMark .m0
      { set := true, setter := some .t1, waiters := [] }
    let st := freshStep 0 syncRec none
    (s.mark .m0).set = true ∧ recMarkSetMark syncRec = 0 ∧ s.hasRampGrant .t0 = false ∧ s.hasRampRequest .t0 = false ∧
      s.completes .t0 st ∧ (s.tube .t0).linkIndex st = 1 ∧ stepCheck s .t0 1 (s.readRecord 1) = some 1 := by
  refine ⟨by decide, by decide, by decide, by decide, ?_, by decide, by decide⟩
  unfold State.completes
  decide

theorem witness_SkipCompletesAndLinks :
    (heldRamp.calm .t0 ∧ heldRamp.completes .t0 (freshStep 0 rampRec none) ∧
      heldRamp.marksQuietly .t0 (freshStep 0 rampRec none) ∧ recAction rampRec ≠ some .endRun ∧
      heldRamp.hasRampGrant .t0 = false ∧ heldRamp.hasRampRequest .t0 = false ∧
      (heldRamp.tube .t0).linkIndex (freshStep 0 rampRec none) = 1 ∧
      stepCheck heldRamp .t0 1 (heldRamp.readRecord 1) = none) ∧
    (((onRec (.running .execute) rampRec).tube .t0).mode = .running .execute ∧
      (released (onRec (.running .execute) rampRec) true).monitor.hold = true ∧
      recHasGas ((onRec (.running .execute) rampRec).readRecord 1) = false ∧
      ((onRec (.running .execute) rampRec).tube .t0).exhProof.proven = false) ∧
    stepCheck (heldRamp.writeRecord 1 badRec) .t0 1 ((heldRamp.writeRecord 1 badRec).readRecord 1) = some 1 := by
  refine ⟨⟨calm_reset _ _ (by decide) (by decide) (by decide), ?_, .inl (by decide), by decide, by decide, by decide,
    by decide, by decide⟩, by decide, by decide⟩
  unfold State.completes
  decide

/-- A step with a mark_set that nobody waits for, an END, and a HELD (INVALID) copy whose mark_set byte is out of range. -/
theorem witness_SkipCompletesAndLinks_more :
    (State.reset.marksQuietly .t0 (freshStep 0 (recordOf [(0, 2), (4, 1), (8, 7)]) none)) ∧
    (recAction (recordOf [(0, 7)]) = some .endRun ∧
      (onRec (.running .execute) (recordOf [(0, 7)])).completes .t0 (freshStep 0 (recordOf [(0, 7)]) none) ∧
      ((onRec (.running .execute) (recordOf [(0, 7)])).tube .t0).gas.emergency = false) ∧
    ( let s := onRec (.held .invalid .notStarted) (recordOf [(0, 2), (4, 2)])
      (s.tube .t0).mode = .held .invalid .notStarted ∧ ¬s.completes .t0 (freshStep 0 (recordOf [(0, 2), (4, 2)]) none)) := by
  refine ⟨.inr ⟨by decide, ?_, .m7, by decide, ?_⟩, ⟨by decide, ?_, by decide⟩, by decide, ?_⟩
  · intro t
    cases t <;> decide
  · intro w h
    cases h
  all_goals
    unfold State.completes
    decide

theorem witness_AbortFloodsTheTube : heldRamp.calm .t0 ∧ (heldRamp.tube .t0).mode.isRun = true ∧
    ((onRec (.aborting 300) rampRec).tube .t0).mode = .aborting 300 :=
  ⟨calm_reset _ _ (by decide) (by decide) (by decide), by decide, by decide⟩

theorem witness_ServiceInSettles : State.reset.jobs = [] ∧ (State.reset.tube .t3).mode = .outOfService ∧
    (Port.facility = .facility ∧ some 3 = some TubeId.t3.num) ∧ State.reset.power.requests = [] ∧
    State.reset.power.grants = [] := by decide

theorem witness_ServiceOutReleases : ((inMode .idlePurge).calm .t0 ∧ (inMode .idlePurge).modeInv ∧
      ((inMode .idlePurge).tube .t0).mode = .idlePurge) ∧
    ((inMode (.idle (some 60))).tube .t0).mode.isIdle = true ∧ ((inMode (.settling 1)).tube .t0).mode.isSettling = true := by
  refine ⟨⟨calm_reset _ _ (by decide) (by decide) (by decide), ?_, by decide⟩, by decide, by decide⟩
  intro t
  refine ⟨?_, ?_, ?_, ?_, ?_⟩
  all_goals cases t
  all_goals first | decide | (intro h; exact absurd h (by decide))

/-- Tube 0 in IDLE_PURGE with PORT_COMMAND in its wake mask. -/
def sleeping : State := tube0 fun x => { x with mode := .idlePurge, settings := { x.settings with wakeMask := 1 } }

theorem witness_ClearsRemoveWhatTheyName :
    (State.reset.jobs = [] ∧ (State.reset.tube .t0).mode.isSettling = false ∧ State.reset.portSettling .facility = false ∧
      State.reset.activeTube .t0 = false) ∧ State.reset.quietPort .facility ∧
    32767 < 2 ^ 15 ∧ 2 ^ 15 ≤ 32768 ∧ 127 < 2 ^ 7 ∧ 2 ^ 7 ≤ 128 ∧ 8 ≤ 8 ∧
    ((inMode (.settling 20)).tube .t0).mode.isSettling = true ∧
    ((inMode (.idle (some 60))).activeTube .t0 = true ∧ (inMode (.idle (some 60))).portSettling (.station .t0) = false) ∧
    ((inMode .idlePurge).tube .t0).settings.wakeMask.getLsbD 0 = false ∧
    ((sleeping.tube .t0).mode = .idlePurge ∧ (sleeping.tube .t0).settings.wakeMask.getLsbD 0 = true ∧ sleeping.calm .t0) :=
  ⟨by decide, trivial, by decide, by decide, by decide, by decide, by decide, by decide, by decide, by decide, by decide,
    by decide, calm_reset _ _ (by decide) (by decide) (by decide)⟩

/-- ESTOP proven and the latch set. -/
def estopProven : State := State.reset.setProof (.bank .estop) { State.reset.proof (.bank .estop) with proven := true }

theorem witness_BankHoldAndBankRelease : (State.reset.jobs = [] ∧ State.reset.monitor.latch = true ∧
      State.reset.monitor.estopProof.proven = false) ∧ estopProven.monitor.estopProof.proven = true ∧
    (∀ t ph, (estopProven.tube t).mode ≠ .held .bank ph) ∧
    ( let s := released (onRec (.held .bank .notStarted) soakRec) true
      s.monitor.latch = false ∧ (s.tube .t0).mode = .held .bank .notStarted ∧
        ∀ t ph, (s.tube t).mode = .held .bank ph → (s.tube t).exhProof.proven = false ∧
          ∃ st, (s.tube t).step = some st ∧ recHasGas st.record = false) := by
  refine ⟨by decide, by decide, ?_, by decide, by decide, ?_⟩
  · intro t ph h
    cases t <;> cases h
  · intro t ph h
    cases t <;> cases h
    exact ⟨by decide, _, rfl, by decide⟩

theorem witness_BankStopTripsEveryRun : State.reset.monitor.flowSettleTime ≠ 0 ∧ State.reset.gas.queue = [] ∧
    heldRamp.modeInv ∧ (heldRamp.tube .t0).mode.isRun = true ∧
    (heldRamp.tube .t0).step = some (freshStep 0 rampRec none) ∧ (heldRamp.tube .t1).mode.isRun = false :=
  ⟨by decide, by decide, witness_TubeStateInvariantKept, by decide, by decide, by decide⟩

theorem witness_NumericSettingsClampAndKeepOthers :
    ((Instr.capacityWrite .facility .carrier 200001).asCmd = some (.facility, .set true 0x10 3 [200001]) ∧
      settingOf? 0x10 3 = some (.capacity .carrier) ∧ itemWidths? 0x10 = some [4] ∧
      (Setting.capacity .carrier).range? = some (0, 200000) ∧ (Setting.capacity .carrier).writable .facility true = true ∧
      ((codeClass? (Cmd.set true 0x10 3 [200001]).code).any fun k => k.allows .facility) = true ∧
      State.reset.portSettling .facility = false) ∧
    ((Instr.pushBandWrite (.station .t0) .t0 501).asCmd = some (.station .t0, .set false 0x4C 0 [501]) ∧
      settingOf? 0x4C 0 = some (.pushBand .t0) ∧ (Setting.pushBand .t0).range? = some (0, 500) ∧
      (Setting.pushBand .t0).writable (.station .t0) false = true ∧ State.reset.portSettling (.station .t0) = false) := by
  decide

theorem witness_HardwareSettingsOutOfServiceOnly : ((heldRamp.tube .t0).mode ≠ .outOfService ∧
      (heldRamp.tube .t0).mode.isSettling = false) ∧ (State.reset.tube .t0).mode = .outOfService ∧
    headerChoice? 5 = none ∧ headerChoice? 4 = some none ∧ (LineId.l0 = .l0 ∧ 1 ≠ 0) := by decide

theorem witness_ChoicesTakenOrRefused :
    ((Instr.eventEnablesWrite (.station .t0) .t0 32768).asCmd = some (.station .t0, .set false 0x41 0 [32768]) ∧
      settingOf? 0x41 0 = some (.eventEnables .t0) ∧ itemWidths? 0x41 = some [2] ∧
      (Setting.eventEnables .t0).writable (.station .t0) false = true ∧
      ((codeClass? (Cmd.set false 0x41 0 [32768]).code).any fun k => k.allows (.station .t0)) = true ∧
      State.reset.portSettling (.station .t0) = false ∧ State.reset.choiceBlocked (.eventEnables .t0) = none) ∧
    ((Setting.eventEnables .t0).choices?.map fun v => (v [32767], v [32768])) = some (true, false) ∧
    ((Setting.wakeMask .t0).choices?.map fun v => (v [15], v [16])) = some (true, false) ∧
    ((Setting.faultAction .t0).choices?.map fun v => (v [1], v [2])) = some (true, false) ∧
    ((Setting.tubeEnables .t0 .exh).choices?.map fun v => (v [1, 1], v [1, 2])) = some (true, false) ∧
    ((Setting.priorities).choices?.map fun v => (v [3, 1, 0, 2], v [3, 1, 0, 3])) = some (true, false) ∧
    ((Setting.tubeSource .t0 .otc).choices?.map fun v => (v [4], v [0], v [5])) = some (true, false, false) ∧
    heldRamp.choiceBlocked (.tubeSource .t0 .exh) = some .tubeActive ∧
    (released State.reset false).choiceBlocked (.bankSource .cooling) = some .badState ∧
    State.reset.choiceBlocked (.bankSource .cooling) = none := by decide

/-- The thresholds of EXH stand at 20 and 30. -/
theorem witness_ChoicesTakenOrRefused_thresholds : (State.reset.tube .t0).settings.exhHigh < 31 ∧
    19 < (State.reset.tube .t0).settings.exhLow ∧ ¬(State.reset.tube .t0).settings.exhHigh < 30 ∧
    ¬20 < (State.reset.tube .t0).settings.exhLow ∧ State.reset.jobs = [] ∧
    (State.reset.tube .t0).mode.isSettling = false := by decide

/-- Tube 0 IDLE with 100 sccm granted on line 0, and an INERT capacity of 100. -/
def flowing (m : Mode) : State :=
  { tube0 fun x => { x with
      mode := m, gas := { grant := { zeroLines with l0 := 100 }, command := { zeroLines with l0 := 100 }, emergency := false } }
    with gas := { State.reset.gas with capacity := ⟨100, 0, 0, 0⟩ } }

theorem witness_CapacityCutScalesTheHeader : (flowing (.idle none)).jobs = [] ∧
    (flowing (.idle none)).monitor.flowSettleTime ≠ 0 ∧ (flowing (.idle none)).gas.queue = [] ∧
    (∀ t, ((flowing (.idle none)).tube t).mode ≠ .running .prove) ∧ 99 < (flowing (.idle none)).grantSum .inert ∧
    99 ≤ 200000 := by
  refine ⟨by decide, by decide, by decide, ?_, by decide, by decide⟩
  intro t
  cases t <;> decide

theorem headerInv_flowing (m : Mode) (hm : m = .idle none ∨ m = .idlePurge) : (flowing m).headerInv := by
  rcases hm with rfl | rfl
  all_goals
    refine ⟨?_, ?_, ?_, ?_, by decide⟩
    · intro h; cases h <;> decide
    · intro t; cases t <;> decide
    · intro t; cases t <;> decide
    · intro e h; cases h

theorem witness_BudgetCutRevokesYoungestFirst : table48.jobs = [] ∧ (table48.power.grants.map RampGrant.tube).Nodup ∧
    table48.power.throttle ≤ 1000 ∧
    ( let s := { table48 with monitor := State.reset.monitor }
      s.monitor.coolingProof.proven = false ∧ s.power.grants ≠ []) := by decide

theorem witness_LowerIdleFlowsTakenAtOnce : (flowing (.idle none)).headerInv ∧ (flowing .idlePurge).headerInv ∧
    ((flowing (.idle none)).tube .t0).mode.isIdle = true ∧ ((flowing .idlePurge).tube .t0).mode = .idlePurge ∧
    ((flowing .idlePurge).tube .t0).gas.emergency = false ∧
    min 100 (min 50000 ((flowing .idlePurge).lineMaximum .t0 .l0)) ≤ (flowing .idlePurge).normalGrant .t0 .inert ∧
    ((flowing .idlePurge).tube .t0).settings.activityMask = 0 ∧ ((flowing .idlePurge).tube .t0).settings.wakeMask = 0 :=
  ⟨headerInv_flowing _ (.inl rfl), headerInv_flowing _ (.inr rfl), by decide, by decide, by decide, by decide, by decide,
    by decide⟩

/-- READ_STEP of index 1023 is accepted in every state but SETTLING, and leaves the state. -/
theorem witness_AcceptedCommandIsActivity :
    (([.idle (some 60), .idle none, .outOfService, .idlePurge] : List Mode).all fun m =>
      match (inMode m).judgeCommand (.station .t0) (.readStep 1023) with
      | .ok (v, _) => v == inMode m
      | .error _ => false) = true ∧
    (match heldRamp.judgeCommand (.station .t0) (.readStep 1023) with
      | .ok (v, _) => v == heldRamp
      | .error _ => false) = true ∧
    (heldRamp.jobs = [] ∧ (heldRamp.tube .t0).mode.isRun = true ∧
      (Instr.readStep (.station .t0) 1023).asCmd = some (.station .t0, .readStep 1023)) ∧
    (match State.reset.judgeCommand (.station .t0) (.readStep 1024) with
      | .ok _ => false
      | .error why => why == .badValue) = true ∧
    ((inMode .idlePurge).tube .t0).settings.wakeMask.getLsbD 0 = false ∧
    ((sleeping.tube .t0).settings.wakeMask.getLsbD 0 = true ∧ sleeping.calm .t0 ∧
      sleeping.grantsAtOnce .t0 { zeroLines with
        l0 := min (sleeping.tube .t0).settings.standbyFlow (sleeping.lineMaximum .t0 .l0) }) :=
  ⟨by decide, by decide, by decide, by decide, by decide, by decide,
    calm_reset _ _ (by decide) (by decide) (by decide), .inl fun h => by cases h <;> decide⟩

/-- Tube 0 RUNNING in EXECUTE of this step, its zones fresh at 0, holding a ramp grant. -/
def executing (st : ActiveStep) : State :=
  { withZones (tube0 fun x => { x with mode := .running .execute, step := some st })
    with power := { State.reset.power with grants := [{ tube := .t0, amount := 1 }] } }

/-- An upward RAMP. -/
def upRamp : ActiveStep := { freshStep 0 rampRec none with rampDir := some .up }

/-- The same RAMP one tick before its target. -/
def lastRamp : State := (executing upRamp).modTube .t0 fun x => { x with setpoint := 49 }

theorem witness_RampTickAdvancesOrHolds :
    ((executing upRamp).jobs = [] ∧ ((executing upRamp).tube .t0).mode = .running .execute ∧
      ((executing upRamp).tube .t0).step = some upRamp ∧ (executing upRamp).monitorEnds .t0 = false ∧
      recAction upRamp.record = some .ramp ∧ (executing upRamp).advancing .t0 upRamp = true ∧
      ((executing upRamp).tube .t0).setpoint + (upRamp.rampAcc + recRate upRamp.record) / 60 <
        10 * recTarget upRamp.record) ∧
    (lastRamp.advancing .t0 upRamp = true ∧
      10 * recTarget upRamp.record ≤ (lastRamp.tube .t0).setpoint + (upRamp.rampAcc + recRate upRamp.record) / 60) ∧
    (recAction (recordOf [(0, 2), (38, 2)]) = some .soak ∧
      (executing (freshStep 0 (recordOf [(0, 2), (38, 2)]) none)).advancing .t0
        (freshStep 0 (recordOf [(0, 2), (38, 2)]) none) = true ∧
      0 + 1 ≠ recDuration (recordOf [(0, 2), (38, 2)])) ∧
    ((onRec (.running .execute) soakRec).advancing .t0 (freshStep 0 soakRec none) = false ∧
      (onRec (.running .execute) soakRec).bandExpired .t0 (freshStep 0 soakRec none) = false ∧
      (onRec (.running .execute) soakRec).monitorEnds .t0 = false) ∧
    (heldRamp.jobs = [] ∧ (heldRamp.tube .t0).mode = .held .station .execute) ∧
    ( let st := { upRamp with zoneStale := 10 }
      let s := tube0 fun x => { x with mode := .running .execute, step := some st }
      s.advancing .t0 st = false ∧ s.monitorEnds .t0 = true) := by decide

theorem witness_CarryRuleLosesNothing : (0 ≤ 0 ∧ 0 ≤ 1) ∧ ((inMode .idlePurge).tube .t0).mode = .idlePurge ∧
    ((inMode .idlePurge).tube .t0).setpoint = 0 ∧ ((inMode .idlePurge).tube .t0).settings.idleRate = 500 := by decide

/-- A PUSH in EXECUTE at P with the drive at `actual`. -/
def pushing (p actual : Nat) (ready : Bool) : State :=
  withDrive ((executing (freshStep 0 pushRec none)).modTube .t0 fun x => { x with position := p }) actual ready

theorem witness_MotionTickMovesAndJudges :
    let st := freshStep 0 pushRec none
    (recAction st.record = some .push ∧ (pushing 0 0 true).jobs = [] ∧
      (pushing 0 0 true).freshLoader .t0 = some ⟨0, true⟩ ∧ st.atTarget = false ∧
      distance 1 0 ≤ (pushing 0 0 true).bank.followLimit ∧ ¬recTarget st.record ≤ 0 + (st.motionAcc + st.speed) / 60) ∧
    (recTarget st.record ≤ 99 + (st.motionAcc + st.speed) / 60 ∧
      (pushing 99 0 true).bank.inPositionBand < distance 0 (recTarget st.record) ∧
      distance (recTarget st.record) 0 ≤ (pushing 99 0 true).bank.followLimit ∧
      st.settleCount + 1 < 10 * (pushing 99 0 true).bank.settleTime) ∧
    ((pushing 0 0 false).freshLoader .t0 = some ⟨0, false⟩ ∧ st.followCount + 1 < (pushing 0 0 false).bank.stallTime) ∧
    ( let s := pushing 0 502 true
      s.freshLoader .t0 = some ⟨502, true⟩ ∧ s.bank.followLimit < distance 1 502 ∧ st.followCount + 1 < s.bank.stallTime) ∧
    (executing st).freshLoader .t0 = none ∧ ((executing st).tube .t0).settings.faultAction = .hold := by decide

/-- A PUSH at target, the drive in position, the bank hold flag set. -/
theorem witness_MotionTickMovesAndJudges_arrives :
    let st := { freshStep 0 pushRec none with atTarget := true, settleCount := 99 }
    let s := released (withDrive ((onRec (.running .execute) pushRec).modTube .t0 fun x =>
      { x with step := some st, position := 100 }) 100 true) true
    s.freshLoader .t0 = some ⟨100, true⟩ ∧ distance 100 (recTarget st.record) ≤ s.bank.inPositionBand ∧
      s.monitor.hold = true ∧ s.completes .t0 st ∧ recMarkSetMark st.record = 0 ∧ s.hasRampGrant .t0 = false ∧
      s.hasRampRequest .t0 = false ∧ (s.tube .t0).linkIndex st = 1 ∧ stepCheck s .t0 1 (s.readRecord 1) = none := by
  refine ⟨by decide, by decide, by decide, ?_, by decide, by decide, by decide, by decide, by decide⟩
  unfold State.completes
  decide

/-- No note of the facility and of station 0 pending. -/
def noted (s : State) : State :=
  (s.modPort .facility fun e => { e with notePending := false }).modPort (.station .t0) fun e => { e with notePending := false }

/-- R95: a grant sends a BANK_NOTE, one of nothing to a tube that holds nothing among them. -/
theorem test_grant_noted : (((noted State.reset).grantGas .t0 zeroLines).port .facility).notePending = true := by decide

/-- R88, R96: the release before an emergency grant of the same flow is noted. -/
theorem test_emergency_noted :
    let s := noted { tube0 fun x => { x with
        mode := .aborting 300, gas := { TubeGas.zero with grant := { zeroLines with l0 := 100 } }
        settings := { x.settings with lines := x.settings.lines.set .l0 { header := some .inert, maximum := 100 } } }
      with gas := { State.reset.gas with capacity := ⟨100, 0, 0, 0⟩, emergencyFlow := 100 } }
    (s.port .facility).notePending = false ∧ (s.grantEmergency .t0).grantSum .inert = s.grantSum .inert ∧
      ((s.grantEmergency .t0).port .facility).notePending = true := by decide

/-- R163: RESUME of a PUSH held by a fault with P past its target faults again at once, and is noted. -/
theorem test_resume_noted :
    let s := noted (withZones ((onRec (.held .fault .execute) pushRec).modTube .t0 fun x => { x with
      position := 101, exhProof := { x.exhProof with proven := true } }))
    let u := nextOf (exec (.resume (.station .t0)) s)
    (u.tube .t0).mode = .held .fault .execute ∧ (u.port (.station .t0)).notePending = true := by decide

theorem witness_PushBandWriteJudgesProve :
    let s := withZones ((onRec (.running .prove) pushRec).modTube .t0 fun x =>
      { x with exhProof := { x.exhProof with proven := true } })
    s.jobs = [] ∧ (s.tube .t0).mode = .running .prove ∧ (s.tube .t0).step = some (freshStep 0 pushRec none) ∧
      (s.tube .t0).position < recTarget pushRec ∧ s.freshZone .t0 .loadEnd = some 0 ∧
      distance 0 ((s.tube .t0).zoneSetpoint .loadEnd) ≤ min 0 500 := by decide

/-- Tube 0 RUNNING in EXECUTE of this step, its zones stale. -/
def blind (st : ActiveStep) : State := tube0 fun x => { x with mode := .running .execute, step := some st }

theorem witness_FaultCountersEndTheStep :
    ( let s := tube0 fun x => { x with
        mode := .running .prove, step := some { freshStep 0 soakRec none with proofTime := 59 } }
      s.jobs = [] ∧ s.bank.proofTime ≤ 59 + 1 ∧ (s.tube .t0).settings.faultAction = .hold) ∧
    ( let s := (flowing (.running .execute)).setStep .t0 (some { freshStep 0 soakRec none with flowLoss := 5 })
      (s.tube .t0).flowProof.proven = false ∧ (s.tube .t0).anyCommanded = true ∧ s.bank.flowLossTime < 5 + 1) ∧
    ( let s := blind { freshStep 0 soakRec none with zoneStale := 10 }
      s.anyZoneStale .t0 = true ∧ s.bank.zoneStaleLimit < 10 + 1) ∧
    ( let st := { freshStep 0 bandRec none with holdFlag := false, bandHold := 1 }
      let s := (executing st).modTube .t0 fun x => { x with
        setpoint := 20, settings := { x.settings with bandLimit := 1 } }
      s.outOfBand .t0 st = true ∧ 0 < (s.tube .t0).settings.bandLimit ∧ (s.tube .t0).settings.bandLimit ≤ 65535 ∧
        (s.tube .t0).settings.bandLimit < st.bandHold + 1 ∧ (s.tube .t0).settings.faultAction = .hold) ∧
    ( let s := (blind (freshStep 0 syncRec none)).setMark .m0 { Mark.clear with waiters := [⟨.t0, false⟩] }
      recAction syncRec = some .sync ∧ (freshStep 0 syncRec none).markWait = some .m0 ∧ s.waitsOn .t0 .m0 = true ∧
        0 < recWaitLimit syncRec ∧ recWaitLimit syncRec ≤ 0 + 1) ∧
    ( let st := { freshStep 0 pushRec none with atTarget := true, settleCount := 99 }
      let s := withDrive (executing st) 0 true
      s.freshLoader .t0 = some ⟨0, true⟩ ∧ s.bank.inPositionBand < distance 0 (recTarget pushRec) ∧
        10 * s.bank.settleTime ≤ st.settleCount + 1) ∧
    ( let st := { freshStep 0 pushRec none with followCount := 19 }
      let s := withDrive (executing st) 0 false
      s.freshLoader .t0 = some ⟨0, false⟩ ∧ s.bank.stallTime ≤ st.followCount + 1) ∧
    ( let st := { freshStep 0 pushRec none with followCount := 19 }
      let s := withDrive (executing st) 502 true
      s.freshLoader .t0 = some ⟨502, true⟩ ∧ ¬recTarget pushRec ≤ 0 + (st.motionAcc + st.speed) / 60 ∧
        s.bank.followLimit < distance (0 + (st.motionAcc + st.speed) / 60) 502 ∧ s.bank.stallTime ≤ st.followCount + 1) := by decide

/-- A fault with fault_action ABORT: the last second of PROVE. -/
theorem witness_FaultCountersEndTheStep_abort :
    let s := tube0 fun x => { x with
      mode := .running .prove, step := some { freshStep 0 soakRec none with proofTime := 59 }
      settings := { x.settings with faultAction := .abort } }
    s.calm .t0 ∧ (s.tube .t0).settings.faultAction = .abort :=
  ⟨calm_reset _ _ (by decide) (by decide) (by decide), by decide⟩

/-- What `Completes` asks of a state: the completion fields, no mark, no ramp grant, a link target that passes and needs no gas. -/
def Linkable (s : State) (st : ActiveStep) : Prop :=
  s.completes .t0 st ∧ recMarkSetMark st.record = 0 ∧ s.hasRampGrant .t0 = false ∧ s.hasRampRequest .t0 = false ∧
    (s.tube .t0).linkIndex st = 1 ∧ stepCheck s .t0 1 (s.readRecord 1) = none ∧ recHasGas (s.readRecord 1) = false ∧
    (s.tube .t0).exhProof.proven = false

theorem witness_SoakAndPurgeCountersEnd :
    ( let s := released (withZones (onRec (.running .execute) soakRec)) true
      s.jobs = [] ∧ s.advancing .t0 (freshStep 0 soakRec none) = true ∧ 0 + 1 = recDuration soakRec ∧
        s.monitor.hold = true ∧ (released s false).monitor.hold = false ∧ Linkable s (freshStep 0 soakRec none)) ∧
    ( let s := (onRec (.running .execute) highRec).modTube .t0 fun x =>
        { x with flowProof := { x.flowProof with proven := true } }
      (freshStep 0 highRec none).pulse = recPulses highRec ∧ recOffTime highRec = 0 ∧ 0 + 1 = recOnTime highRec ∧
        Linkable s (freshStep 0 highRec none)) ∧
    ( let s := (onRec (.running .execute) purgeRec).modTube .t0 fun x =>
        { x with flowProof := { x.flowProof with proven := true } }
      recAction purgeRec = some .purge ∧ (s.tube .t0).flowProof.proven = true ∧ s.monitor.flowSettleTime ≠ 0 ∧
        s.monitorEnds .t0 = false ∧ (freshStep 0 purgeRec none).purgePhase = .high ∧ 0 + 1 = recOnTime purgeRec ∧
        0 < recOffTime purgeRec ∧ 0 + 1 = recOffTime purgeRec ∧ 1 ≠ recPulses purgeRec) := by
  unfold Linkable State.completes
  decide

/-- Tube 0 in a mode, its standby flow and idle flow 1 on a line 0 that carries 1, with an INERT capacity. -/
def asking (m : Mode) (capacity : Nat) : State :=
  { tube0 fun x => { x with mode := m, settings := { x.settings with
      standbyFlow := 1, idleFlow := 1, lines := x.settings.lines.set .l0 { header := some .inert, maximum := 1 } } }
    with gas := { State.reset.gas with capacity := ⟨capacity, 0, 0, 0⟩ } }

/-- A flow of 1 is granted at once on an INERT capacity of 1 and waits on one of 0. -/
theorem witness_TimersEndTheTubeState_requests : ∀ m ∈ ([.settling 20, .aborting 1, .idle (some 1)] : List Mode),
    (asking m 0).calm .t0 ∧ ((asking m 0).gas.queue.map GasEntry.tube).Nodup ∧
    (asking m 1).grantsAtOnce .t0 { zeroLines with l0 := min 1 ((asking m 1).lineMaximum .t0 .l0) } ∧
    ¬(asking m 0).grantsAtOnce .t0 { zeroLines with l0 := min 1 ((asking m 0).lineMaximum .t0 .l0) } := by
  intro m hm
  have h : m = .settling 20 ∨ m = .aborting 1 ∨ m = .idle (some 1) := by simpa using hm
  rcases h with rfl | rfl | rfl <;>
  · refine ⟨calm_reset _ _ (by decide) (by decide) (by decide), by decide, .inr fun h => by cases h <;> decide, fun h => ?_⟩
    rcases h with h | h <;> exact absurd (h .inert) (by decide)

theorem witness_TimersEndTheTubeState : (inMode (.settling 20)).calm .t0 ∧ (inMode (.aborting 3600)).calm .t0 ∧
    (inMode (.idle (some 86400))).calm .t0 ∧ ((inMode (.settling 0)).tube .t0).mode = .settling 0 ∧
    20 ≤ 20 ∧ 3600 ≤ 3600 ∧ 86400 ≤ 86400 :=
  ⟨calm_reset _ _ (by decide) (by decide) (by decide), calm_reset _ _ (by decide) (by decide) (by decide),
    calm_reset _ _ (by decide) (by decide) (by decide), by decide, by decide, by decide, by decide⟩

/-- A proof of the part proven true while its raw value is false. -/
def falling (s : State) (p : ProofId) : State := s.setProof p { s.proof p with raw := false, proven := true }

theorem witness_ProvenEdgesReachTheirBlocks :
    ( let s := falling heldRamp (.tube .t0 .exh)
      s.jobs = [] ∧ s.monitor.flowSettleTime ≠ 0 ∧ s.gas.queue = [] ∧ s.flowHeld (.tube .t0 .exh) = false ∧
        (s.proof (.tube .t0 .exh)).raw = false ∧ (s.proof (.tube .t0 .exh)).proven = true ∧
        (s.tube .t0).mode.isRun = true ∧ (s.tube .t0).step = some (freshStep 0 rampRec none)) ∧
    ( let s := falling (flowing (.held .station .execute)) (.tube .t0 .sealed)
      (s.proof (.tube .t0 .sealed)).raw ≠ (s.proof (.tube .t0 .sealed)).proven) ∧
    ( let s := falling (executing upRamp) (.bank .cooling)
      (s.proof (.bank .cooling)).raw ≠ (s.proof (.bank .cooling)).proven ∧ s.power.grants ≠ []) ∧
    ( let s := (inMode (.idle none)).setProof (.tube .t0 .otc)
        { State.reset.proof (.tube .t0 .otc) with raw := true, riseEnable := true }
      (s.proof (.tube .t0 .otc)).raw = true ∧ (s.proof (.tube .t0 .otc)).proven = false ∧
        (s.tube .t0).mode ≠ .outOfService) ∧
    ( let s := State.reset.setProof (.bank .estop) { State.reset.proof (.bank .estop) with raw := true }
      (s.proof (.bank .estop)).raw ≠ (s.proof (.bank .estop)).proven) ∧
    ( let s := tube0 fun x => { x with flowSettle := 1 }
      0 < (s.tube .t0).flowSettle ∧ s.rawNow (.tube .t0 .flow) = (s.tube .t0).flowProof.proven) ∧
    ( let s := tube0 fun x => { x with flowSettle := 1, flowProof := { x.flowProof with proven := true } }
      s.rawNow (.tube .t0 .flow) ≠ (s.tube .t0).flowProof.proven ∧ (s.tube .t0).flowProof.debounce = 0) := by decide

/-- No due mark of any node set. -/
def nothingDue : State :=
  { State.reset with link :=
    let n : NodeStatus := { fresh := false, cause := .missed, misses := 0, pollDue := false, safeDue := false }
    { zones := PerTube.of fun _ => PerZone.of fun _ => { reading := none, status := n }
      flows := PerTube.of fun _ => { reading := none, status := n }
      loaders := PerTube.of fun _ => { reading := none, status := n }
      bank := { reading := none, status := n }
      exchange := none } }

theorem nothingDue_marks (m : NodeId) : (nothingDue.nodeStatus m).safeDue = false ∧
    (nothingDue.nodeStatus m).pollDue = false := by
  rcases m with ⟨t, z⟩ | t | t | _
  · cases t <;> cases z <;> decide
  · cases t <;> decide
  · cases t <;> decide
  · decide

theorem witness_LinkTakesTheFirstDueExchange :
    (nothingDue.jobs = [] ∧ nothingDue.link.exchange = none) ∧
    (∀ m, (nothingDue.nodeStatus m).safeDue = false ∧ (nothingDue.nodeStatus m).pollDue = false) ∧
    ((State.reset.nodeStatus .bank).pollDue = true ∧ (State.reset.nodeStatus .bank).misses < 2) ∧
    (polled State.reset .bank 0 true).link.exchange.isSome = true ∧
    ((State.reset.nodeStatus (.zone .t0 .loadEnd)).safeDue = true ∧
      ∀ m, (State.reset.nodeStatus m).safeDue = true → (NodeId.zone .t0 .loadEnd).address ≤ m.address) ∧
    ( let s := nothingDue.setStatus (.flow .t2) { nothingDue.nodeStatus (.flow .t2) with pollDue := true }
      (s.nodeStatus (.flow .t2)).pollDue = true ∧ (s.nodeStatus .bank).pollDue = false) :=
  ⟨by decide, nothingDue_marks, by decide, by decide, ⟨by decide, fun m _ => Nat.zero_le _⟩, by decide⟩

theorem witness_GoodReplyIsHeld :
    ((polled State.reset (.zone .t0 .loadEnd) 2 true).link.exchange.map Exchange.node = some (.zone .t0 .loadEnd) ∧
      ((polled State.reset (.zone .t0 .loadEnd) 2 true).tube .t0).mode ≠ .running .prove) ∧
    ( let s := (polled State.reset (.flow .t0) 2 true).modTube .t0 fun x =>
        { x with flowProof := { x.flowProof with debounce := 1 } }
      s.jobs = [] ∧ s.link.exchange.map Exchange.node = some (.flow .t0) ∧ (s.tube .t0).flowProof.source = .internal ∧
        (s.tube .t0).flowProof.debounce ≠ 0) ∧
    ((polled State.reset (.loader .t0) 1 true).link.exchange.map Exchange.node = some (.loader .t0) ∧
      ((polled State.reset (.loader .t0) 1 true).link.loaders.get .t0).status.misses < 2) := by decide

/-- Every contact of the bank node with one flag. -/
def contacts (f : WireFlag) : PerTube WireFlag := ⟨f, f, f, f⟩

theorem witness_BankReplyFeedsTheProofs :
    ((polled State.reset .bank 1 true).jobs = [] ∧
      (polled State.reset .bank 1 true).link.exchange.map Exchange.node = some .bank ∧
      (polled State.reset .bank 1 true).link.bank.status.misses < 2) ∧
    (∀ t : TubeId, (contacts .yes).get t ≠ .invalid ∧ (contacts .no).get t ≠ .invalid) ∧
    ¬∀ t : TubeId, (contacts .invalid).get t ≠ .invalid := by
  refine ⟨by decide, fun t => by cases t <;> decide, fun h => h .t0 rfl⟩

/-- A flow unit's reply with no exchange in progress, as after its reply timeout, leaves its node STALE (R146). -/
theorem test_late_reply_not_taken :
    ((nextOf (exec (.goodReply (.flow .t0) (.flow zeroLines)) nothingDue)).nodeStatus (.flow .t0)).fresh = false := by
  decide

theorem witness_MissesMakeNodesStale :
    (nothingDue.jobs = [] ∧ nothingDue.link.exchange = none) ∧ NodeId.flow .t0 ≠ .bank ∧
    ((polled State.reset .bank 1 true).jobs = [] ∧ ((polled State.reset .bank 1 true).nodeStatus .bank).misses < 2 ∧
      (polled State.reset .bank 1 true).link.exchange.map Exchange.node = some .bank) ∧
    (2 ≤ ((polled State.reset .bank 2 true).nodeStatus .bank).misses ∧
      ((polled State.reset .bank 2 true).nodeStatus .bank).fresh = true) ∧
    ((polled State.reset (.flow .t0) 3 false).nodeStatus (.flow .t0)).fresh = false ∧
    ( let s := polled ((executing (freshStep 0 pushRec none)).modTube .t0 fun x =>
        { x with sealProof := { x.sealProof with debounce := 1 } }) (.loader .t0) 2 true
      (s.nodeStatus (.loader .t0)).fresh = true ∧ (s.tube .t0).mode = .running .execute ∧
        (s.tube .t0).step = some (freshStep 0 pushRec none) ∧ recAction pushRec = some .push ∧
        (s.tube .t0).settings.faultAction = .hold ∧ (s.tube .t0).sealProof.debounce ≠ 0) ∧
    (State.reset.proof (.tube .t0 .exh)).source = .externalPass := by decide

theorem witness_SetMarkIsTakenByItsWaiters :
    ( let ws : List Waiter := [⟨.t0, false⟩, ⟨.t1, true⟩]
      let s := (blind (freshStep 0 syncRec none)).setMark .m0 { Mark.clear with waiters := ws }
      (s.mark .m0).waiters.Nodup ∧ (s.tube .t0).mode = .running .execute ∧ (s.tube .t1).mode ≠ .running .execute) ∧
    let s := (blind (freshStep 0 syncRec none)).setMark .m0 { Mark.clear with waiters := [⟨.t0, true⟩, ⟨.t1, false⟩] }
    (s.mark .m0).waiters.Nodup ∧ ((blind (freshStep 0 syncRec none)).mark .m0).set = false ∧
      (freshStep 0 syncRec none).markWait = some .m0 ∧ (blind (freshStep 0 syncRec none)).waitsOn .t0 .m0 = false := by
  decide

/-- Two requests in the queue: tube 0 asks for 200 on INERT, tube 1 for 50, with a capacity of 100. -/
def twoRequests (policy : Policy) : State :=
  { State.reset with gas := { State.reset.gas with
      capacity := ⟨200, 0, 0, 0⟩, policy := policy
      queue := [{ tube := .t0, amount := ⟨200, 0, 0, 0⟩, flows := { zeroLines with l0 := 200 }, oversize := false },
                { tube := .t1, amount := ⟨50, 0, 0, 0⟩, flows := { zeroLines with l0 := 50 }, oversize := false }] }
                     tubes := State.reset.tubes.set .t2 { State.reset.tubes.t2 with
                       gas := { TubeGas.zero with grant := { zeroLines with l0 := 100 } } } }

/-- Two ramp requests and a budget for neither after the first. -/
def twoRamps : State :=
  { State.reset with power := { State.reset.power with
      budget := 100
      requests := [{ tube := .t0, amount := 60, oversize := false }, { tube := .t3, amount := 60, oversize := false }] } }

theorem witness_AllocatorPassesFollowTheirOrder :
    (((twoRequests .fifo).gas.queue.map GasEntry.tube).Nodup ∧ (twoRequests .fifo).gas.policy = .fifo ∧
      ((twoRequests .fifo).gasPass.gas.queue.find? (fun e => !e.oversize)).isSome = true) ∧
    ((twoRequests .fitFirst).gas.queue.all fun e => !(twoRequests .fitFirst).gasOversize e) = true ∧
    ((twoRequests .fitFirst).gas.queue.map fun e => (twoRequests .fitFirst).gasFits e) = [false, true] ∧
    twoRamps.power.order = .fixed ∧ { twoRamps.power with order := .rotate }.order = .rotate ∧
    [twoRamps.power.priority.t0, twoRamps.power.priority.t1, twoRamps.power.priority.t2,
      twoRamps.power.priority.t3].Perm [0, 1, 2, 3] ∧ (twoRamps.power.requests.map RampRequest.tube).Nodup ∧
    (twoRamps.power.candidates.find? fun x => twoRamps.rampPass.power.requests.any fun q => q.tube == x && !q.oversize) =
      some .t3 := by decide

end Sys2Proof.Tests
end

section
/-!
What a facility command gives when it is refused and when it is taken (R157), the outcomes of a write of the region
boundaries (R2, R3), and the obligation on SET_REGIONS (O27).
-/

namespace Sys2Proof.Machine

open Sys2Proof

/-! ### A command of the facility port and its one reply (R157) -/

/-- The note-pending flags leave every engine as it is but for that flag (R163). -/
@[simp] theorem State.quiet_port_noteWatch (s old : State) (q : Port) :
    ((s.noteWatch old).port q).quiet = (s.port q).quiet :=
  State.portQuiet_of_kept (State.kept_noteWatch s old) q

theorem State.erasePorts_addReply (s : State) (p : Port) (f : Frame) : (s.addReply p f).erasePorts = s.erasePorts := by
  cases p <;> rfl

/-- A state with the ports of `s` gives, with a frame added and the flags taken, the one reply that `s` is owed. -/
theorem replied_noteWatch_addReply {s v : State} (hports : v.ports = s.ports) (old : State) (p : Port) (f : Frame) :
    Replied p f s ((v.addReply p f).noteWatch old) := by
  intro q
  rw [State.quiet_port_noteWatch, State.port_addReply, State.port_eq s hports, State.port_eq s hports]
  by_cases hq : q = p
  · subst hq
    simp [PortEngine.quiet]
  · simp [hq, PortEngine.quiet]

/-- An instruction whose operation adds a frame to `v`, which leaves no act to run, is answered with that frame. -/
theorem answered_of_addReply {i : Instr} {p : Port} {f : Frame} {s v : State} {op : State → State}
    (hexec : exec i s = .next (s.act op)) (hop : op s = v.addReply p f) (hjobs : v.jobs = [])
    (hports : v.ports = s.ports) : Answered i p f s v := by
  have hact : s.act op = (v.addReply p f).noteWatch s := by
    rw [State.act_of_jobs_nil (by rw [hop, State.addReply_jobs, hjobs]), hop]
  refine ⟨_, hexec, ?_, ?_⟩
  · rw [hact, State.erasePorts_noteWatch, State.erasePorts_addReply]
  · rw [hact]
    exact replied_noteWatch_addReply hports s p f

/-- A command refused adds its REFUSE and does nothing else. -/
theorem State.command_of_refused {s : State} {p : Port} {c : Cmd} {r : Reason} (h : s.judgeCommand p c = .error r) :
    s.command p c = s.addReply p (refuseFrame (BitVec.ofNat 8 c.code) r) := by
  simp only [State.command, h]

/-- A command of the facility taken adds its ACK to the state it leaves, BANK_RESET apart. -/
theorem State.command_of_taken {s u : State} {c : Cmd} {data : List Byte} (hc : c ≠ .bankReset)
    (h : s.judgeCommand .facility c = .ok (u, data)) :
    s.command .facility c = u.addReply .facility (ackFrame (BitVec.ofNat 8 c.code) data) := by
  simp only [State.command, h, State.portActivity, hc, if_false]

/-! ### The region boundaries (R2, R3) -/

/-- The state with the three boundaries replaced. -/
def State.withRegions (s : State) (b0 b1 b2 : Nat) : State := { s with b0 := b0, b1 := b1, b2 := b2 }

/-- Boundaries change a tube's region where they move one of its bounds. -/
theorem State.regionChanges_iff (s : State) (b0 b1 b2 : Nat) (t : TubeId) :
    s.regionChanges b0 b1 b2 t = true ↔
      (s.regionStart t, s.regionEnd t) ≠
        ((s.withRegions b0 b1 b2).regionStart t, (s.withRegions b0 b1 b2).regionEnd t) := by
  cases t <;>
    simp only [State.regionChanges, State.regionStart, State.regionEnd, State.withRegions, Bool.or_eq_true, bne_iff_ne,
      ne_eq, Prod.mk.injEq, true_and, and_true, Decidable.not_and_iff_not_or_not]

theorem Mode.regionFree_iff (m : Mode) : m.regionFree = true ↔ m = .outOfService ∨ m.isIdle = true := by
  cases m <;> simp [Mode.regionFree, Mode.isIdle]

/-- A tube that is neither OUT_OF_SERVICE nor IDLE stands in the way of the boundaries (R3). -/
def State.regionBlocked (s : State) (b0 b1 b2 : Nat) (t : TubeId) : Prop :=
  (s.regionStart t, s.regionEnd t) ≠
      ((s.withRegions b0 b1 b2).regionStart t, (s.withRegions b0 b1 b2).regionEnd t) ∧
    (s.tube t).mode ≠ .outOfService ∧ (s.tube t).mode.isIdle = false

theorem tubeId_mem_all (t : TubeId) : t ∈ TubeId.all := by cases t <;> decide

/-- The scan of the tubes in a write of the boundaries finds the tubes that stand in its way. -/
theorem State.any_regionBlocked_iff (s : State) (b0 b1 b2 : Nat) :
    (TubeId.all.any fun t => s.regionChanges b0 b1 b2 t && !(s.tube t).mode.regionFree) = true ↔
      ∃ t, s.regionBlocked b0 b1 b2 t := by
  have hone (t : TubeId) : (s.regionChanges b0 b1 b2 t && !(s.tube t).mode.regionFree) = true ↔
      s.regionBlocked b0 b1 b2 t := by
    rw [Bool.and_eq_true, State.regionChanges_iff, Bool.not_eq_true', ← Bool.not_eq_true, Mode.regionFree_iff, not_or,
      Bool.not_eq_true, State.regionBlocked]
  simp only [List.any_eq_true, hone, tubeId_mem_all, true_and]

section
variable (s : State) (v0 v1 v2 : Nat)

/-- The clamped boundaries are in order (R3). -/
def regionsOrdered : Prop := min v0 1024 ≤ min v1 1024 ∧ min v1 1024 ≤ min v2 1024

theorem State.writeRegions_of_disorder (h : ¬regionsOrdered v0 v1 v2) : s.writeRegions v0 v1 v2 = .error .badValue :=
  if_pos h

theorem State.writeRegions_of_blocked (h : regionsOrdered v0 v1 v2)
    (hb : ∃ t, s.regionBlocked (min v0 1024) (min v1 1024) (min v2 1024) t) :
    s.writeRegions v0 v1 v2 = .error .tubeActive :=
  (if_neg (not_not_intro h)).trans (if_pos ((s.any_regionBlocked_iff _ _ _).mpr hb))

theorem State.writeRegions_of_free (h : regionsOrdered v0 v1 v2)
    (hb : ¬∃ t, s.regionBlocked (min v0 1024) (min v1 1024) (min v2 1024) t) :
    s.writeRegions v0 v1 v2 = .ok (s.withRegions (min v0 1024) (min v1 1024) (min v2 1024)) :=
  (if_neg (not_not_intro h)).trans (if_neg (mt (s.any_regionBlocked_iff _ _ _).mp hb))

/-! ### SET_REGIONS (R3) -/

/-- SET_REGIONS as the SET_BANK that it is (Table 76). -/
def regionsCmd : Cmd := .set true 0x20 0 [v0, v1, v2]

theorem exec_setRegions (p : Port) :
    exec (.setRegions p v0 v1 v2) s = .next (s.act fun s => s.command p (regionsCmd v0 v1 v2)) := rfl

/-- A bank command is not a station's (R157, step 2). -/
theorem State.judgeCommand_regions_station (t : TubeId) :
    s.judgeCommand (.station t) (regionsCmd v0 v1 v2) = .error .notOwner := rfl

/-- From the facility port SET_REGIONS is judged by the write of the boundaries alone. -/
theorem State.judgeCommand_regions_facility :
    s.judgeCommand .facility (regionsCmd v0 v1 v2) = s.setAccepted .regions 0x20 0 [v0, v1, v2] := rfl

/-- A write of the boundaries that is refused refuses SET_REGIONS for the same reason. -/
theorem answered_setRegions_of_error {r : Reason} (hjobs : s.jobs = []) (h : s.writeRegions v0 v1 v2 = .error r) :
    Answered (.setRegions .facility v0 v1 v2) .facility (refuseFrame 0x20 r) s s := by
  have hjudge : s.judgeCommand .facility (regionsCmd v0 v1 v2) = .error r := by
    rw [State.judgeCommand_regions_facility, State.setAccepted]
    simp only [State.writeSetting, List.getD_cons_zero, List.getD_cons_succ, h]
  exact answered_of_addReply (exec_setRegions s v0 v1 v2 _) (State.command_of_refused hjudge) hjobs rfl

/-- A write of the boundaries that is taken is acknowledged with the three boundaries as they then stand. -/
theorem answered_setRegions_of_ok {b0 b1 b2 : Nat} (hjobs : s.jobs = [])
    (h : s.writeRegions v0 v1 v2 = .ok (s.withRegions b0 b1 b2)) :
    Answered (.setRegions .facility v0 v1 v2) .facility
      (ackFrame 0x20 ([0x20, 0] ++ le 2 b0 ++ le 2 b1 ++ le 2 b2)) s (s.withRegions b0 b1 b2) := by
  have hjudge : s.judgeCommand .facility (regionsCmd v0 v1 v2) =
      .ok (s.withRegions b0 b1 b2, [0x20, 0] ++ le 2 b0 ++ le 2 b1 ++ le 2 b2) := by
    rw [State.judgeCommand_regions_facility, State.setAccepted]
    simp only [State.writeSetting, List.getD_cons_zero, List.getD_cons_succ, h]
    rfl
  exact answered_of_addReply (exec_setRegions s v0 v1 v2 _) (State.command_of_taken nofun hjudge) hjobs rfl

end

/-- Settles O27: the port class, the order of the clamped values and the tubes in the way are judged in R3's order, and
what is left is the write of all three boundaries. -/
theorem regionsWrittenTogether : Obligations.RegionsWrittenTogether := by
  intro s v0 v1 v2 hjobs
  refine ⟨fun t => ?_, fun hdis => ?_, fun hord hblocked => ?_, fun hord hfree => ?_⟩
  · exact answered_of_addReply (exec_setRegions s v0 v1 v2 _)
      (State.command_of_refused (s.judgeCommand_regions_station v0 v1 v2 t)) hjobs rfl
  · exact answered_setRegions_of_error s v0 v1 v2 hjobs (s.writeRegions_of_disorder v0 v1 v2 hdis)
  · exact answered_setRegions_of_error s v0 v1 v2 hjobs (s.writeRegions_of_blocked v0 v1 v2 hord hblocked)
  · refine answered_setRegions_of_ok s v0 v1 v2 hjobs (s.writeRegions_of_free v0 v1 v2 hord ?_)
    rintro ⟨t, hchanges, hservice, hidle⟩
    rcases hfree t hchanges with hout | hidle'
    · exact hservice hout
    · exact Bool.false_ne_true (hidle.symm.trans hidle')

end Sys2Proof.Machine
end

section
/-!
What a station's command gives when it is taken and its activity finds nothing to do (R151, R157), what HOLD gives (R29), and the
obligation on HOLD (O31).
-/

namespace Sys2Proof.Machine

open Sys2Proof

/-! ### Activity of a tube that it cannot act on (R151) -/

theorem State.takeActivity_of_not_active {s : State} {t : TubeId} (h : s.activeTube t = false) (kinds : BitVec 4) :
    s.takeActivity t kinds = s := by
  simp only [State.takeActivity]
  split
  · next hidle => simp [State.activeTube, hidle] at h
  · next hpurge => simp [State.activeTube, hpurge] at h
  · rfl

/-- A tube in RUNNING or HELD is not open to activity. -/
theorem State.not_active_of_isRun {s : State} {t : TubeId} (h : (s.tube t).mode.isRun = true) :
    s.activeTube t = false := by
  unfold State.activeTube
  cases hmode : (s.tube t).mode with
  | running _ => rfl
  | held _ _ => rfl
  | _ => simp [hmode, Mode.isRun] at h

theorem State.notePort_push (s old : State) (js : List Job) (p : Port) :
    State.notePort old (s.push js) p = (State.notePort old s p).push js := by
  have hsummary : (s.push js).summary p = s.summary p := by cases p <;> rfl
  unfold State.notePort
  rw [hsummary]
  split
  · rfl
  · cases p <;> rfl

/-- The note-pending flags do not depend on the acts that stand. -/
theorem State.noteWatch_push (s old : State) (js : List Job) : (s.push js).noteWatch old = (s.noteWatch old).push js := by
  simp only [State.noteWatch, allPorts, List.foldl_cons, List.foldl_nil, State.notePort_push]

/-- An activity that cannot act on its tube, as the one act that stands, changes nothing. -/
theorem State.settle_push_activity {s : State} {t : TubeId} (hjobs : s.jobs = []) (h : s.activeTube t = false)
    (kinds : BitVec 4) : (s.push [.activity t kinds]).settle = s := by
  have hrest : ({ s.push [.activity t kinds] with jobs := [] } : State) = s := by rw [← hjobs]; rfl
  have hdo : s.doJob (.activity t kinds) = s := State.takeActivity_of_not_active h kinds
  have hrun : (s.push [.activity t kinds]).runJob (.activity t kinds) [] = s := by
    rw [State.runJob, hrest, hdo, List.append_nil]
    exact State.noteWatch_of_summary fun p => by cases p <;> rfl
  unfold State.settle
  rw [show Config.jobFuel = 1048575 + 1 from rfl, State.runJobs, State.push_jobs, hjobs]
  simp only [List.nil_append, hrun]
  simp only [State.runJobs, hjobs]

/-- A step that leaves such an activity and no other act is its operation and the note-pending flags. -/
theorem State.act_of_push_activity {s v : State} {t : TubeId} {kinds : BitVec 4} {op : State → State}
    (hop : op s = v.push [.activity t kinds]) (hjobs : v.jobs = []) (h : v.activeTube t = false) :
    s.act op = v.noteWatch s := by
  have hactive : (v.noteWatch s).activeTube t = false := by
    rwa [State.activeTube, State.tube, State.tubes_noteWatch]
  rw [State.act, hop, State.noteWatch_push]
  exact State.settle_push_activity ((State.jobs_noteWatch v s).trans hjobs) hactive kinds

/-! ### A command of a station and its one reply (R157) -/

/-- A command of a station taken adds its ACK to the state it leaves and puts PORT_COMMAND activity, BANK_RESET apart. -/
theorem State.command_station_of_taken {s u : State} {t : TubeId} {c : Cmd} {data : List Byte} (hc : c ≠ .bankReset)
    (h : s.judgeCommand (.station t) c = .ok (u, data)) :
    s.command (.station t) c =
      (u.addReply (.station t) (ackFrame (BitVec.ofNat 8 c.code) data)).push [.activity t Activity.portCommand.bit] := by
  simp only [State.command, h, State.portActivity, hc, if_false]

/-- A reply leaves open to activity the tubes that were. -/
theorem State.activeTube_addReply (s : State) (p : Port) (f : Frame) (t : TubeId) :
    (s.addReply p f).activeTube t = s.activeTube t := by
  simp only [State.activeTube, State.tube_addReply]

/-- An instruction whose operation adds a frame to `v` and puts an activity that cannot act is answered with that frame. -/
theorem answered_of_addReply_push_activity {i : Instr} {p : Port} {f : Frame} {s v : State} {op : State → State}
    {t : TubeId} {kinds : BitVec 4} (hexec : exec i s = .next (s.act op))
    (hop : op s = (v.addReply p f).push [.activity t kinds]) (hjobs : v.jobs = []) (hports : v.ports = s.ports)
    (hactive : v.activeTube t = false) : Answered i p f s v := by
  have hjobs' : (v.addReply p f).jobs = [] := (State.addReply_jobs v p f).trans hjobs
  have hact : s.act op = s.act fun _ => v.addReply p f := by
    rw [State.act_of_push_activity hop hjobs' ((State.activeTube_addReply v p f t).trans hactive),
      State.act_of_jobs_nil hjobs']
  exact answered_of_addReply (hexec.trans (congrArg _ hact)) rfl hjobs hports

/-- A command of a station taken is answered with its ACK where its activity cannot act on the tube. -/
theorem answered_station_of_taken {i : Instr} {t : TubeId} {c : Cmd} {s v : State} {data : List Byte}
    (hexec : exec i s = .next (s.act fun s => s.command (.station t) c)) (hc : c ≠ .bankReset)
    (h : s.judgeCommand (.station t) c = .ok (v, data)) (hjobs : v.jobs = []) (hports : v.ports = s.ports)
    (hactive : v.activeTube t = false) :
    Answered i (.station t) (ackFrame (BitVec.ofNat 8 c.code) data) s v :=
  answered_of_addReply_push_activity hexec (State.command_station_of_taken hc h) hjobs hports hactive

/-! ### HOLD (R29) -/

theorem exec_hold (p : Port) (s : State) : exec (.hold p) s = .next (s.act fun s => s.command p .hold) := rfl

/-- HOLD of a station whose tube is not SETTLING is judged by R29 alone. -/
theorem State.judgeCommand_hold {s : State} {t : TubeId} (h : (s.tube t).mode.isSettling = false) :
    s.judgeCommand (.station t) .hold = s.cmdHold t := by
  show (if ((s.tube t).mode.isSettling && true) = true then _ else _) = _
  rw [h]
  rfl

theorem State.cmdHold_of_running {s : State} {t : TubeId} {ph : Phase} (h : (s.tube t).mode = .running ph) :
    s.cmdHold t = accept ((s.setMode t (.held .station ph)).raise t .held) := by
  simp only [State.cmdHold, h]

theorem State.cmdHold_of_held {s : State} {t : TubeId} {r : HoldReason} {ph : Phase}
    (h : (s.tube t).mode = .held r ph) : s.cmdHold t = accept s := by
  simp only [State.cmdHold, h]

theorem State.cmdHold_of_not_run {s : State} {t : TubeId} (h : (s.tube t).mode.isRun = false) :
    s.cmdHold t = .error .badState := by
  unfold State.cmdHold
  cases hm : (s.tube t).mode with
  | running _ => simp [hm, Mode.isRun] at h
  | held _ _ => simp [hm, Mode.isRun] at h
  | _ => rfl

@[simp] theorem State.setTube_setTube (s : State) (t : TubeId) (x y : Tube) :
    (s.setTube t x).setTube t y = s.setTube t y := by
  cases t <;> rfl

/-- An event of a tube replaces that tube's event requests and nothing else (R24). -/
theorem State.raise_eq_setTube (s : State) (t : TubeId) (e : Event) :
    s.raise t e = s.setTube t { s.tube t with
      events := (s.tube t).events ||| (e.bit &&& (s.tube t).settings.enables) } := by
  rw [State.raise, State.modTube, Event.joined]

/-- A tube's state replaced and an event raised change that tube in its state and its event requests alone. -/
theorem State.setMode_raise (s : State) (t : TubeId) (m : Mode) (e : Event) :
    (s.setMode t m).raise t e = s.setTube t { s.tube t with
      mode := m
      events := (s.tube t).events ||| (e.bit &&& (s.tube t).settings.enables) } := by
  rw [State.raise_eq_setTube, State.tube_setMode, if_pos rfl, State.setMode, State.modTube, State.setTube_setTube]

/-- Settles O31: by the tube's state HOLD is taken as the one tube's replacement, taken with no effect, or refused; a tube in
RUNNING or HELD is not open to the activity that follows. -/
theorem holdKeepsPhaseAndCounters : Obligations.HoldKeepsPhaseAndCounters := by
  intro s t hjobs
  refine ⟨fun ph hmode => ?running, fun r ph hmode => ?held, fun hrun hsettling => ?refused⟩
  case running =>
    have hjudge := State.judgeCommand_hold (s := s) (t := t) (by rw [hmode]; rfl)
    rw [State.cmdHold_of_running hmode, State.setMode_raise] at hjudge
    exact answered_station_of_taken (exec_hold _ s) nofun hjudge hjobs rfl
      (State.not_active_of_isRun (by rw [State.tube_setTube, if_pos rfl]; rfl))
  case held =>
    have hjudge := State.judgeCommand_hold (s := s) (t := t) (by rw [hmode]; rfl)
    rw [State.cmdHold_of_held hmode] at hjudge
    exact answered_station_of_taken (exec_hold _ s) nofun hjudge hjobs rfl
      (State.not_active_of_isRun (by rw [hmode]; rfl))
  case refused =>
    have hjudge := State.judgeCommand_hold hsettling
    rw [State.cmdHold_of_not_run hrun] at hjudge
    exact answered_of_addReply (exec_hold _ s) (State.command_of_refused hjudge) hjobs rfl

end Sys2Proof.Machine
end

section
/-!
What the link's arbiter takes (R144): a search of the nodes in the arbiter's order finds the due node that comes first in it.  The Set
messages in the terms of R53, R77 and R116, and the obligation on the free link (O55).
-/

namespace Sys2Proof.Machine

open Sys2Proof

/-! ### Steps that change the link alone -/

/-- The bank's and the tubes' summaries hold nothing of the link (R163). -/
theorem State.summary_withLink (s : State) (l : FieldLink) (p : Port) :
    ({ s with link := l } : State).summary p = s.summary p := by
  cases p <;> rfl

/-- An operation that changes the link alone sets nothing else off. -/
theorem State.act_of_link_alone {s : State} {f : State → State} {l : FieldLink} (hjobs : s.jobs = [])
    (h : f s = { s with link := l }) : s.act f = f s :=
  State.act_of_quiet (by rw [h]; exact hjobs) fun p => by rw [h, State.summary_withLink]

theorem State.setStatus_eq_withLink (s : State) (n : NodeId) (st : NodeStatus) :
    s.setStatus n st = { s with link := (s.setStatus n st).link } := by
  cases n <;> rfl

theorem State.setStatus_setExchange_eq_withLink (s : State) (n : NodeId) (st : NodeStatus) (e : Option Exchange) :
    (s.setStatus n st).setExchange e = { s with link := ((s.setStatus n st).setExchange e).link } := by
  cases n <;> rfl

/-! ### Poll periods (R144) -/

theorem exec_pollDue (n : NodeId) (s : State) : exec (.pollDue n) s = .next (s.act fun s => s.pollPeriod n) := rfl

theorem State.pollPeriod_of_not_due {s : State} {n : NodeId} (h : (s.nodeStatus n).pollDue = false) :
    s.pollPeriod n = s.setStatus n { s.nodeStatus n with pollDue := true } := by
  simp [State.pollPeriod, h]

theorem State.pollPeriod_of_due {s : State} {n : NodeId} (h : (s.nodeStatus n).pollDue = true) :
    s.pollPeriod n = s.miss n := by
  simp [State.pollPeriod, h]

/-- A miss before the third one in a row is counted, and that is all (R147). -/
theorem State.miss_of_lt {s : State} {n : NodeId} (h : (s.nodeStatus n).misses < 2) :
    s.miss n = s.setStatus n { s.nodeStatus n with misses := (s.nodeStatus n).misses + 1 } := by
  have hcount : min ((s.nodeStatus n).misses + 1) Config.staleMisses = (s.nodeStatus n).misses + 1 :=
    Nat.min_eq_left (show _ ≤ 3 by omega)
  have hbelow : (s.nodeStatus n).misses + 1 < Config.staleMisses := show _ < 3 by omega
  simp only [State.miss, hcount, if_pos hbelow]

/-! ### The arbiter's order (R144) -/

/-- One node's poll comes before another's: the lower rank, then the lower address. -/
def NodeId.pollBefore (a b : NodeId) : Prop :=
  a.pollRank < b.pollRank ∨ a.pollRank = b.pollRank ∧ a.address < b.address

/-- The order in which the arbiter looks for a due poll. -/
def pollNodes : List NodeId := loaderNodes ++ slowNodes ++ zoneNodes

theorem mem_allNodes (n : NodeId) : n ∈ allNodes := by
  rcases n with ⟨t, z⟩ | t | t | _
  · cases t <;> cases z <;> decide
  · cases t <;> decide
  · cases t <;> decide
  · decide

theorem pollNodes_perm_allNodes : pollNodes.Perm allNodes := by decide

theorem mem_pollNodes (n : NodeId) : n ∈ pollNodes := pollNodes_perm_allNodes.mem_iff.mpr (mem_allNodes n)

theorem allNodes_sorted : allNodes.Pairwise fun a b => a.address < b.address := by decide

theorem pollNodes_sorted : pollNodes.Pairwise NodeId.pollBefore := by
  unfold NodeId.pollBefore
  decide

/-- In a list in the order `R`, the search finds the match that no match comes before. -/
theorem find?_of_pairwise {α : Type} {R : α → α → Prop} {p : α → Bool} {l : List α} {a : α} (hsorted : l.Pairwise R)
    (hmem : a ∈ l) (hp : p a = true) (hfirst : ∀ b, p b = true → ¬R b a) : l.find? p = some a := by
  obtain ⟨before, after, rfl⟩ := List.append_of_mem hmem
  refine List.find?_eq_some_iff_append.mpr ⟨hp, before, after, rfl, fun b hb => ?_⟩
  have hR : R b a := (List.pairwise_append.mp hsorted).2.2 b hb a List.mem_cons_self
  rw [Bool.not_eq_true', ← Bool.not_eq_true]
  exact fun hpb => hfirst b hpb hR

section
variable {s : State} {n : NodeId}

theorem State.find?_safeDue_of_none (h : ∀ m, (s.nodeStatus m).safeDue = false) :
    (allNodes.find? fun m => (s.nodeStatus m).safeDue) = none :=
  List.find?_eq_none.mpr fun m _ => by rw [h m]; exact Bool.false_ne_true

theorem State.nextExchange_of_not_safe (h : ∀ m, (s.nodeStatus m).safeDue = false) :
    s.nextExchange = (pollNodes.find? fun m => (s.nodeStatus m).pollDue).map fun m => (m, false) := by
  simp only [State.nextExchange, State.find?_safeDue_of_none h, pollNodes]

theorem State.nextExchange_of_none (h : ∀ m, (s.nodeStatus m).safeDue = false ∧ (s.nodeStatus m).pollDue = false) :
    s.nextExchange = none := by
  have hpoll : (pollNodes.find? fun m => (s.nodeStatus m).pollDue) = none :=
    List.find?_eq_none.mpr fun m _ => by rw [(h m).2]; exact Bool.false_ne_true
  rw [State.nextExchange_of_not_safe fun m => (h m).1, hpoll, Option.map_none]

/-- The safe exchange at the lowest address goes first. -/
theorem State.nextExchange_of_safe (hdue : (s.nodeStatus n).safeDue = true)
    (hfirst : ∀ m, (s.nodeStatus m).safeDue = true → n.address ≤ m.address) : s.nextExchange = some (n, true) := by
  have hfind : (allNodes.find? fun m => (s.nodeStatus m).safeDue) = some n :=
    find?_of_pairwise allNodes_sorted (mem_allNodes n) hdue fun m hm => Nat.not_lt.mpr (hfirst m hm)
  simp only [State.nextExchange, hfind]

/-- With no safe exchange due, the poll of the lowest rank goes first, and at one rank the lowest address. -/
theorem State.nextExchange_of_poll (hsafe : ∀ m, (s.nodeStatus m).safeDue = false) (hdue : (s.nodeStatus n).pollDue = true)
    (hfirst : ∀ m, (s.nodeStatus m).pollDue = true →
      n.pollRank < m.pollRank ∨ n.pollRank = m.pollRank ∧ n.address ≤ m.address) :
    s.nextExchange = some (n, false) := by
  have hfind : (pollNodes.find? fun m => (s.nodeStatus m).pollDue) = some n := by
    refine find?_of_pairwise pollNodes_sorted (mem_pollNodes n) hdue fun m hm hbefore => ?_
    have hnm := hfirst m hm
    unfold NodeId.pollBefore at hbefore
    omega
  rw [State.nextExchange_of_not_safe hsafe, hfind, Option.map_some]

/-! ### The exchange taken (R144, R145) -/

theorem State.takeExchange_of_busy {e : Exchange} (h : s.link.exchange = some e) : s.takeExchange = s := by
  simp only [State.takeExchange, h]

theorem State.takeExchange_of_none (h : s.nextExchange = none) : s.takeExchange = s := by
  unfold State.takeExchange
  rw [h]
  cases s.link.exchange <;> rfl

theorem State.takeExchange_of_safe (hfree : s.link.exchange = none) (h : s.nextExchange = some (n, true)) :
    s.takeExchange = (s.setStatus n { s.nodeStatus n with safeDue := false }).setExchange
      (some { node := n, safe := true, message := s.setMessage n true }) := by
  simp only [State.takeExchange, hfree, h, if_true]

theorem State.takeExchange_of_poll (hfree : s.link.exchange = none) (h : s.nextExchange = some (n, false)) :
    s.takeExchange = (s.setStatus n { s.nodeStatus n with pollDue := false }).setExchange
      (some { node := n, safe := false, message := s.setMessage n false }) := by
  simp only [State.takeExchange, hfree, h, Bool.false_eq_true, if_false]

/-- An exchange that is not taken leaves the state. -/
theorem exec_exchangeTaken_of_eq (hjobs : s.jobs = []) (h : s.takeExchange = s) : exec .exchangeTaken s = .next s :=
  congrArg Host.Outcome.next ((State.act_of_link_alone (l := s.link) hjobs h).trans h)

/-- An exchange that is taken is the marks and the link it leaves, and nothing that follows. -/
theorem exec_exchangeTaken_of_taken {st : NodeStatus} {e : Option Exchange} (hjobs : s.jobs = [])
    (h : s.takeExchange = (s.setStatus n st).setExchange e) :
    exec .exchangeTaken s = .next ((s.setStatus n st).setExchange e) :=
  congrArg Host.Outcome.next
    ((State.act_of_link_alone hjobs (h.trans (s.setStatus_setExchange_eq_withLink n st e))).trans h)

end

/-! ### What a Set message says (R53, R77, R116, R145) -/

/-- A zone setpoint is floor(S / 10) with its offset, clamped to 0 and Tmax (R53). -/
theorem Tube.zoneSetpoint_eq_clamp (x : Tube) (z : ZoneId) :
    x.zoneSetpoint z =
      (max 0 (min (x.settings.tmax : Int) (((x.setpoint / 10 : Nat) : Int) + x.offsets.get z))).toNat := by
  simp only [Tube.zoneSetpoint]
  generalize ((x.setpoint / 10 : Nat) : Int) + x.offsets.get z = v
  split
  · omega
  · split <;> omega

/-- The inert lines are sent as commanded, another mapped line behind a proven seal, and no other line (R77). -/
theorem State.sentFlow_eq (s : State) (t : TubeId) (l : LineId) :
    (s.tube t).sentFlow l =
      if l = .l0 ∨ s.lineHeader t l = some .inert then (s.tube t).gas.command.get l
      else if (s.lineHeader t l).isSome = true ∧ (s.tube t).sealProof.proven = true then (s.tube t).gas.command.get l
      else 0 := by
  unfold Tube.sentFlow State.lineHeader
  split
  next => rw [if_pos (Or.inl rfl)]
  next hinert => rw [if_pos (Or.inr hinert)]
  next h hnot hl0 hheader =>
    rw [hheader, if_neg (not_or.mpr ⟨hl0, fun hinert => hnot (Option.some.inj hinert)⟩)]
    simp only [Option.isSome_some, true_and]
  next hl0 hheader =>
    rw [hheader, if_neg (not_or.mpr ⟨hl0, nofun⟩), if_neg fun hmapped => Bool.false_ne_true hmapped.1]

/-- The drive of a loader is enabled for a taken position of a tube in service that is not settling (R116). -/
theorem Tube.loaderEnable_eq (x : Tube) :
    x.loaderEnable = (x.taken && decide (x.mode ≠ .outOfService ∧ x.mode.isSettling = false)) := by
  rw [Tube.loaderEnable, Bool.and_assoc]
  congr 1
  cases x.mode <;> rfl

/-! ### The free link -/

/-- Settles O55: each clause is one case of a poll period or of the arbiter's choice; the message of a poll is read node kind by
node kind. -/
theorem linkTakesTheFirstDueExchange : Obligations.LinkTakesTheFirstDueExchange := by
  intro s n hjobs
  refine ⟨fun hidle => ?marked, fun hdue hmisses => ?missed, fun e hbusy => ?busy,
    fun hfree => ⟨fun hnone => ?nothing, fun hdue hfirst => ?safe, fun hsafe hdue hfirst => ?poll⟩⟩
  case marked =>
    have hop := State.pollPeriod_of_not_due hidle
    rw [exec_pollDue, State.act_of_link_alone hjobs (hop.trans (s.setStatus_eq_withLink _ _)), hop]
  case missed =>
    have hop := (State.pollPeriod_of_due hdue).trans (State.miss_of_lt hmisses)
    rw [exec_pollDue, State.act_of_link_alone hjobs (hop.trans (s.setStatus_eq_withLink _ _)), hop]
  case busy => exact exec_exchangeTaken_of_eq hjobs (State.takeExchange_of_busy hbusy)
  case nothing => exact exec_exchangeTaken_of_eq hjobs (State.takeExchange_of_none (State.nextExchange_of_none hnone))
  case safe =>
    rw [exec_exchangeTaken_of_taken hjobs
      (State.takeExchange_of_safe hfree (State.nextExchange_of_safe hdue hfirst))]
    cases n <;> rfl
  case poll =>
    rw [exec_exchangeTaken_of_taken hjobs
      (State.takeExchange_of_poll hfree (State.nextExchange_of_poll hsafe hdue hfirst))]
    cases n with
    | zone t z => simp only [State.setMessage, Tube.zoneSetpoint_eq_clamp, Bool.false_eq_true, if_false]
    | flow t => simp only [State.setMessage, Tube.sentFlows, funext (s.sentFlow_eq t), Bool.false_eq_true, if_false]
    | loader t => simp only [State.setMessage, Tube.loaderEnable_eq, Bool.not_false, Bool.true_and]
    | bank => rfl

end Sys2Proof.Machine
end
